-- ==== Sys2Proof/Word.lean ====
section
/-! DEFINITION. The word types of PULSEGEN (00_scope.md R8, R9). A tick is an unbounded natural number
(R8, R29), so its type is `Nat`. -/

namespace Sys2Proof

/-- A byte of an operand or result buffer, or an 8-bit port (R8, R51). -/
abbrev Byte := BitVec 8

/-- A command word CMD16 (R8, R70). -/
abbrev CmdWord := BitVec 16

/-- The bit pattern of an `F64` value in the format `FLOAT_FMT` (R7, R10, R75). Under binary32 the
pattern is the low 32 bits and the high 32 bits are 0 (DESIGN CHOICE, log entry 14). -/
abbrev F64 := BitVec 64

/-- A handle to a pin writer (R28). A handle has no structure in the spec; the model names each by a
number (DESIGN CHOICE, log entry 15). -/
abbrev PinHandle := Nat

/-- `+0.0`, the pattern of all zeros in both formats (R10). -/
def posZero : F64 := 0

/-- `cdiv(a, b)`, the integer ceiling of `a / b` for `b > 0` (R9). -/
def cdiv (a b : Nat) : Nat := (a + b - 1) / b

end Sys2Proof
end

