-- ==== Sys2Proof/Syntax.lean ====
section
/-! DEFINITION. The operations of PULSEGEN (30_encoding.md R73), the operand ports a command word
arrives with (R74), who issues it (R13), and one move of the interleaving of agents (R212). -/

namespace Sys2Proof

/-- The 14 operations, one constructor per row of the opcode table (R73). The only immediate is the
`isActive` bit `A` of the two edge operations (R71). -/
inductive Instr where
  /-- `PulseGenerator.start(pinWriter, period)` (R120). -/
  | start
  /-- The explicit stop signal (R122). -/
  | stop
  /-- `PulseGenerator.setOnWidth(width)` (R124). -/
  | setOnWidth
  /-- `runCycle()` (R125). -/
  | runCycle
  /-- `DirectionInputLatch.onForwardEdge(isActive)` (R150). -/
  | fwdEdge (active : Bool)
  /-- `DirectionInputLatch.onBackwardEdge(isActive)` (R151). -/
  | bwdEdge (active : Bool)
  /-- `HighResolutionClock.now()` (R102). -/
  | now
  /-- `HighResolutionClock.frequency()` (R103). -/
  | frequency
  /-- `BusyWaitScheduler.waitFor(duration)` (R104). -/
  | waitFor
  /-- `SensorCodec.decodeHumidity(raw)` (R161). -/
  | decodeHumidity
  /-- `SensorCodec.decodeTemperatureCelsius(raw)` (R162). -/
  | decodeTemperatureC
  /-- `SensorCodec.decodeAdc12Bit(raw)` (R163). -/
  | decodeAdc12
  /-- `SensorCodec.decodeAdc10Bit(raw)` (R164). -/
  | decodeAdc10
  /-- `SensorCodec.encodePixelFrame(pixels)` (R165). -/
  | encodePixelFrame
deriving DecidableEq, Repr

/-- The agents that issue command words (R13, R73). The other two agents act without one: CLK by
`Move.clk`, PINENV by the answer a command carries. -/
inductive Issuer where
  /-- The setpoint source and background-task or UI collaborator. -/
  | host
  /-- The GPIO interrupt dispatcher. -/
  | edge
  /-- The generator's sequencer. -/
  | seq
deriving DecidableEq, Repr

/-- What the pin writer answers to one `PinWrite` (R127). -/
inductive PinResult where
  | ok
  | writeFailure
  | hardwareUnavailable
deriving DecidableEq, Repr, Inhabited

/-- The operand ports of R74. An operation reads only the ports its row of R74 lists. -/
structure Operands where
  /-- `PERIOD_IN`, in milliseconds (START). -/
  periodIn : F64
  /-- `PIN_IN`: NONE, or a pin-writer handle (START). -/
  pinIn : Option PinHandle
  /-- `WIDTH_IN`, in milliseconds (SET_ON_WIDTH). -/
  widthIn : F64
  /-- `DUR_IN`, in milliseconds (WAIT_FOR). -/
  durIn : F64
  /-- `BUF_IN`, byte 0 first (the codec operations). -/
  bufIn : List Byte
  /-- `LEN_IN`, the length that goes with `BUF_IN` (R75). -/
  lenIn : Nat
deriving DecidableEq, Repr

/-- Every port at zero, no pin, an empty buffer. -/
def Operands.zero : Operands :=
  { periodIn := 0, pinIn := none, widthIn := 0, durIn := 0, bufIn := [], lenIn := 0 }

/-- One command as it stands at the block's interface: who issues it, its word, its operand ports
(R70, R74), and what PINENV would answer if the step that serves it writes the pin (R127). -/
structure Command where
  issuer : Issuer
  word : CmdWord
  operands : Operands
  pinAnswer : PinResult
deriving DecidableEq, Repr

/-- One move of the interleaving (R212): a step of CLK, or a step of an issuing agent. PINENV acts
inside the `PinWrite` step that calls it, so it has no move of its own. -/
inductive Move where
  /-- CLK's step (R100). -/
  | clk
  /-- A step of HOST, EDGE or SEQ. -/
  | issue (c : Command)
deriving DecidableEq, Repr

/-- SEQ's turn: it goes on with the loop it runs, RUN_CYCLE (word 0x0400, R126), and PINENV answers
`r`. -/
def Move.seqTurn (r : PinResult) : Move :=
  .issue { issuer := .seq, word := 0x0400, operands := Operands.zero, pinAnswer := r }

end Sys2Proof
end

