-- ==== Sys2Proof/Config.lean ====
section
/-! DEFINITION. The construction parameters (00_scope.md R7, 10_state.md R30) and the free values:
the constants without a body that stand for what the spec leaves to a draw. -/

namespace Sys2Proof

/-- `FLOAT_FMT` (R7). -/
inductive FloatFmt where
  | binary64
  | binary32
deriving DecidableEq, Repr

/-- `ADC_MODE` (R7, R169). No rule reads it. -/
inductive AdcMode where
  | adc10
  | adc12
deriving DecidableEq, Repr, Inhabited

/-- The construction arguments of R7, read-only for the life of the block (R30). A state carries them,
so that every statement over all states is a statement over every admitted value of each (DESIGN CHOICE,
log entry 18). -/
structure Params where
  /-- `F_TICK`, ticks per second: 1 ≤ F_TICK < 2^53. -/
  fTick : Nat
  /-- `TICK_BITS`: `none` is ∞. -/
  tickBits : Option Nat
  /-- `PERIOD_DEFAULT`, in milliseconds, finite and positive. -/
  periodDefault : F64
  /-- `FWD_WIDTH`, in milliseconds. -/
  fwdWidth : F64
  /-- `BWD_WIDTH`, in milliseconds. -/
  bwdWidth : F64
  /-- `FLOAT_FMT`. -/
  floatFmt : FloatFmt
  /-- `MAX_PIXELS`. -/
  maxPixels : Nat
  /-- `ADC_MODE`. -/
  adcMode : AdcMode
deriving DecidableEq, Repr

namespace Config

/-- `BRIGHTNESS`: R7 admits 0xFF only, so it is a constant and no parameter. -/
def brightness : Byte := 0xFF

/-- `F_TICK` is OPEN (D6): a natural the spec does not give. Free value (DESIGN CHOICE, log entry 1). -/
opaque freeTickRate : Nat

/-- The admitted `F_TICK` that the free value names: every natural of 1 .. 2^53 - 1 is one (R7). -/
def fTick : Nat := freeTickRate % (2 ^ 53 - 1) + 1

/-- `MAX_PIXELS` is OPEN (D18). Free value (DESIGN CHOICE, log entry 1). -/
opaque freeMaxPixels : Nat

/-- `ADC_MODE` is OPEN (D20). Free value (DESIGN CHOICE, log entry 1). -/
opaque freeAdcMode : AdcMode

/-- The parameters the machine of `State.reset` is built with: the defaults of R7 where it has one,
the free values where it leaves the parameter OPEN. -/
def params : Params :=
  { fTick := fTick
    tickBits := none
    periodDefault := 0x4034000000000000   -- 20.0
    fwdWidth := 0x4000000000000000        -- 2.0
    bwdWidth := 0x3FF0000000000000        -- 1.0
    floatFmt := .binary64
    maxPixels := freeMaxPixels
    adcMode := freeAdcMode }

/-- `T` at reset: "a draw" (R29). Free value (DESIGN CHOICE, log entry 2). -/
opaque resetTick : Nat

/-- `WAIT_DUR` at reset: unspecified (R27). Free value (DESIGN CHOICE, log entry 3). -/
opaque resetWaitDur : F64

/-- `WAIT_T0` at reset: unspecified (R27). Free value (DESIGN CHOICE, log entry 3). -/
opaque resetWaitT0 : Nat

/-- `WAIT_DELTA` at reset: unspecified (R27). Free value (DESIGN CHOICE, log entry 3). -/
opaque resetWaitDelta : F64

/-- The sign and payload of a NaN that an operation on the two operand patterns produces: IEEE 754
leaves them open and R10 gives none. Free value (DESIGN CHOICE, log entry 4). -/
opaque freeNaNPayload : F64 → F64 → Nat

/-- What the agents do in the `n`-th stretch of a run that nothing else has settled: any finite list
of moves, commands of HOST and EDGE included (R212). Free value (DESIGN CHOICE, log entry 5). -/
opaque freeStretch : Nat → List Move

/-- PINENV's answer in the turn of SEQ that closes the `n`-th stretch (R127). Free value (DESIGN
CHOICE, log entry 5). -/
opaque freePinAnswer : Nat → PinResult

end Config

end Sys2Proof
end

