-- ==== Sys2Proof/Machine/Float.lean ====
section
/-! DEFINITION. IEEE 754 arithmetic on `F64` patterns in the format `FLOAT_FMT` (00_scope.md R10): add,
subtract, multiply and divide, each rounded once to nearest, ties to even; the conversion of a
natural and of a decimal literal; the comparisons; the exact real value of a finite pattern. -/

namespace Sys2Proof

/-- Bits of the fraction field. -/
def FloatFmt.fracBits : FloatFmt → Nat
  | .binary64 => 52
  | .binary32 => 23

/-- Bits of the exponent field. -/
def FloatFmt.expBits : FloatFmt → Nat
  | .binary64 => 11
  | .binary32 => 8

/-- Bits of a whole pattern: sign, exponent, fraction. -/
def FloatFmt.width (f : FloatFmt) : Nat := 1 + f.expBits + f.fracBits

/-- The exponent of the least significant bit of a subnormal: -1074 or -149. -/
def FloatFmt.minExp (f : FloatFmt) : Int := 2 - 2 ^ (f.expBits - 1) - f.fracBits

/-- The pattern of +∞: exponent field all ones, fraction 0. -/
def FloatFmt.infMag (f : FloatFmt) : Nat := (2 ^ f.expBits - 1) * 2 ^ f.fracBits

namespace Float64

/-- What a pattern stands for. A finite value is `(-1)^neg · m · 2^e`. -/
inductive Unpacked where
  | nan
  | inf (neg : Bool)
  | fin (neg : Bool) (m : Nat) (e : Int)
deriving DecidableEq, Repr

/-- `true` when the pattern is no wider than the format (R75). -/
def fits (f : FloatFmt) (x : F64) : Bool := decide (x.toNat < 2 ^ f.width)

/-- The sign bit of a pattern. -/
def signBit (f : FloatFmt) (x : F64) : Bool := x.toNat.testBit (f.width - 1)

/-- The exponent field of a pattern. -/
def expField (f : FloatFmt) (x : F64) : Nat := x.toNat / 2 ^ f.fracBits % 2 ^ f.expBits

/-- The fraction field of a pattern. -/
def fracField (f : FloatFmt) (x : F64) : Nat := x.toNat % 2 ^ f.fracBits

/-- The value of a pattern (IEEE 754 binary interchange formats, R10). -/
def unpack (f : FloatFmt) (x : F64) : Unpacked :=
  if expField f x = 2 ^ f.expBits - 1 then
    if fracField f x = 0 then .inf (signBit f x) else .nan
  else if expField f x = 0 then .fin (signBit f x) (fracField f x) f.minExp
  else .fin (signBit f x) (fracField f x + 2 ^ f.fracBits) (f.minExp + (expField f x - 1 : Nat))

/-- The pattern with the given sign and the given exponent and fraction fields, read as one number. -/
def withSign (f : FloatFmt) (neg : Bool) (mag : Nat) : F64 :=
  BitVec.ofNat 64 (mag + if neg then 2 ^ (f.width - 1) else 0)

/-- The infinity of the given sign. -/
def infinity (f : FloatFmt) (neg : Bool) : F64 := withSign f neg f.infMag

/-- The zero of the given sign. -/
def zero (f : FloatFmt) (neg : Bool) : F64 := withSign f neg 0

/-- The quiet NaN an operation on `x` and `y` gives; its sign and payload are a free value (DESIGN
CHOICE, log entry 4). -/
def nanOf (f : FloatFmt) (x y : F64) : F64 :=
  withSign f (decide (Config.freeNaNPayload x y / 2 ^ (f.fracBits - 1) % 2 = 1))
    (f.infMag + 2 ^ (f.fracBits - 1) + Config.freeNaNPayload x y % 2 ^ (f.fracBits - 1))

/-- `m / 2^k` rounded to the nearest natural, ties to even. -/
def roundShift (m k : Nat) : Nat :=
  let q := m / 2 ^ k
  let r := m % 2 ^ k
  if 2 * r < 2 ^ k then q
  else if 2 ^ k < 2 * r then q + 1
  else q + q % 2

/-- The exponent of the last place that the value `m · 2^e` (`m > 0`) keeps in the format. -/
def lastPlace (f : FloatFmt) (m : Nat) (e : Int) : Int :=
  max (e + (Nat.log2 m : Int) - f.fracBits) f.minExp

/-- The value `m · 2^e` in units of `2^q`, rounded to nearest, ties to even. -/
def roundTo (m : Nat) (e q : Int) : Nat :=
  if q ≤ e then m * 2 ^ (e - q).toNat else roundShift m (q - e).toNat

/-- `(-1)^neg · m · 2^e` rounded to the format, to nearest, ties to even (R10). A value past the largest
finite one becomes an infinity. -/
def round (f : FloatFmt) (neg : Bool) (m : Nat) (e : Int) : F64 :=
  if m = 0 then zero f neg
  else
    let q := lastPlace f m e
    withSign f neg (min ((q - f.minExp).toNat * 2 ^ f.fracBits + roundTo m e q) f.infMag)

/-- `(-1)^neg · (m / d) · 2^e` rounded to the format (`d > 0`). The quotient is taken to more bits than
the format has, and one last bit says whether a remainder is left, so only one rounding happens. -/
def roundQuotient (f : FloatFmt) (neg : Bool) (m d : Nat) (e : Int) : F64 :=
  let k := f.fracBits + 3 + Nat.log2 d
  let n := m * 2 ^ k
  round f neg (2 * (n / d) + if n % d = 0 then 0 else 1) (e - k - 1)

/-- The integer `(-1)^neg · m · 2^(e - q)`, for `q ≤ e`. -/
def signedAt (neg : Bool) (m : Nat) (e q : Int) : Int :=
  (if neg then -1 else 1) * ((m * 2 ^ (e - q).toNat : Nat) : Int)

/-- `x ⊕ y` (R10). An exact sum of zero is `+0.0`, but `-0.0 ⊕ -0.0` is `-0.0`. -/
def add (f : FloatFmt) (x y : F64) : F64 :=
  match unpack f x, unpack f y with
  | .nan, _ => nanOf f x y
  | _, .nan => nanOf f x y
  | .inf s, .inf t => if s = t then infinity f s else nanOf f x y
  | .inf s, .fin .. => infinity f s
  | .fin .., .inf t => infinity f t
  | .fin s m e, .fin t n d =>
    let q := min e d
    let z := signedAt s m e q + signedAt t n d q
    if z = 0 then zero f (s && t) else round f (decide (z < 0)) z.natAbs q

/-- The pattern with its sign bit flipped. -/
def neg (f : FloatFmt) (x : F64) : F64 := x ^^^ BitVec.ofNat 64 (2 ^ (f.width - 1))

/-- `x ⊖ y` (R10). -/
def sub (f : FloatFmt) (x y : F64) : F64 := add f x (neg f y)

/-- `x ⊗ y` (R10). -/
def mul (f : FloatFmt) (x y : F64) : F64 :=
  match unpack f x, unpack f y with
  | .nan, _ => nanOf f x y
  | _, .nan => nanOf f x y
  | .inf s, .inf t => infinity f (s ^^ t)
  | .inf s, .fin t n _ => if n = 0 then nanOf f x y else infinity f (s ^^ t)
  | .fin s m _, .inf t => if m = 0 then nanOf f x y else infinity f (s ^^ t)
  | .fin s m e, .fin t n d => round f (s ^^ t) (m * n) (e + d)

/-- `x ⊘ y` (R10). -/
def div (f : FloatFmt) (x y : F64) : F64 :=
  match unpack f x, unpack f y with
  | .nan, _ => nanOf f x y
  | _, .nan => nanOf f x y
  | .inf _, .inf _ => nanOf f x y
  | .inf s, .fin t _ _ => infinity f (s ^^ t)
  | .fin s _ _, .inf t => zero f (s ^^ t)
  | .fin s m e, .fin t n d =>
    if n = 0 then if m = 0 then nanOf f x y else infinity f (s ^^ t)
    else roundQuotient f (s ^^ t) m n (e - d)

/-- `to_F64(n)` (R10). -/
def ofNat (f : FloatFmt) (n : Nat) : F64 := round f false n 0

/-- The `F64` value nearest to the literal `(-1)^neg · num / den` (R10: "a decimal literal such as
`175.72` stands for the F64 value nearest to it"). -/
def literal (f : FloatFmt) (neg : Bool) (num den : Nat) : F64 := roundQuotient f neg num den 0

/-- How `x` compares with `y`; `none` when either is NaN (R10). `-0.0` and `+0.0` are equal. -/
def compare (f : FloatFmt) (x y : F64) : Option Ordering :=
  match unpack f x, unpack f y with
  | .nan, _ => none
  | _, .nan => none
  | .inf s, .inf t => some (if s = t then .eq else if s then .lt else .gt)
  | .inf s, .fin .. => some (if s then .lt else .gt)
  | .fin .., .inf t => some (if t then .gt else .lt)
  | .fin s m e, .fin t n d =>
    some (Ord.compare (signedAt s m e (min e d)) (signedAt t n d (min e d)))

/-- `x > y` (R10). -/
def gt (f : FloatFmt) (x y : F64) : Bool := compare f x y == some .gt

/-- `x >= y` (R10). -/
def ge (f : FloatFmt) (x y : F64) : Bool :=
  compare f x y == some .gt || compare f x y == some .eq

/-- `x <= y` (R10). -/
def le (f : FloatFmt) (x y : F64) : Bool := ge f y x

/-- `x == y` (R10). -/
def eq (f : FloatFmt) (x y : F64) : Bool := compare f x y == some .eq

/-- `is_finite(x)` (R120). -/
def isFinite (f : FloatFmt) (x : F64) : Bool :=
  match unpack f x with
  | .fin .. => true
  | _ => false

/-- `true` for the NaNs. -/
def isNaN (f : FloatFmt) (x : F64) : Bool := unpack f x == .nan

/-- `real(x)`, the exact value of a finite pattern (R10); 0 for the others, which have none. -/
def real (f : FloatFmt) (x : F64) : Rat :=
  match unpack f x with
  | .fin s m e => (if s then -1 else 1) * (m : Rat) * (2 : Rat) ^ e
  | _ => 0

/-- `n >= real(x)` for a natural `n`, compared exactly (R106). No natural is `>=` +∞ (R110). -/
def natGe (f : FloatFmt) (n : Nat) (x : F64) : Bool :=
  match unpack f x with
  | .nan => false
  | .inf s => s
  | .fin s m e => s || decide (m * 2 ^ e.toNat ≤ n * 2 ^ (-e).toNat)

/-- `ceil(real(x))` for a finite `x >= 0.0` (R108); 0 for the others. -/
def ceilNat (f : FloatFmt) (x : F64) : Nat :=
  match unpack f x with
  | .fin false m e => cdiv (m * 2 ^ e.toNat) (2 ^ (-e).toNat)
  | _ => 0

end Float64

end Sys2Proof
end

