-- ==== Sys2Proof/WellFormed.lean ====
section
/-! DEFINITION. When an operation, its issuer and its operand ports go together: the issuer column of
30_encoding.md R73, and the two conditions R75 puts on the ports. -/

namespace Sys2Proof

/-- The agents that may issue an operation (the issuer column of R73). R215 says that any agent may read
`T` through NOW, while R73, R76(d) and R102 list HOST and SEQ alone: the model follows the table, and NOW
from EDGE is refused (DESIGN CHOICE, log entry 24). -/
def Instr.issuers : Instr → List Issuer
  | .start => [.host]
  | .stop => [.host]
  | .setOnWidth => [.host, .edge]
  | .runCycle => [.seq]
  | .fwdEdge _ => [.edge, .host]
  | .bwdEdge _ => [.edge, .host]
  | .now => [.host, .seq]
  | .frequency => [.host, .seq]
  | .waitFor => [.seq]
  | .decodeHumidity => [.host]
  | .decodeTemperatureC => [.host]
  | .decodeAdc12 => [.host]
  | .decodeAdc10 => [.host]
  | .encodePixelFrame => [.host]

/-- The issuer is one the table allows (R73, R76(d)). -/
def Instr.allowsIssuer (i : Instr) (a : Issuer) : Bool := i.issuers.contains a

/-- The operation reads `BUF_IN` and `LEN_IN` (R74). -/
def Instr.readsBuffer : Instr → Bool
  | .decodeHumidity | .decodeTemperatureC | .decodeAdc12 | .decodeAdc10 | .encodePixelFrame => true
  | .start | .stop | .setOnWidth | .runCycle | .fwdEdge _ | .bwdEdge _ => false
  | .now | .frequency | .waitFor => false

/-- `LEN_IN` equals the length of `BUF_IN`; "a port pair that disagrees cannot be issued" (R75). -/
def Operands.lengthAgrees (o : Operands) : Bool := o.lenIn == o.bufIn.length

/-- The `F64` ports the operation reads hold patterns of the format `FLOAT_FMT` (R74, R75). -/
def Instr.floatsFit (f : FloatFmt) (i : Instr) (o : Operands) : Bool :=
  match i with
  | .start => Float64.fits f o.periodIn
  | .setOnWidth => Float64.fits f o.widthIn
  | .waitFor => Float64.fits f o.durIn
  | .stop | .runCycle | .fwdEdge _ | .bwdEdge _ | .now | .frequency => true
  | .decodeHumidity | .decodeTemperatureC | .decodeAdc12 | .decodeAdc10 | .encodePixelFrame => true

/-- The operand ports are a set that can stand at the interface with the operation (R74, R75). -/
def Instr.operandsOk (f : FloatFmt) (i : Instr) (o : Operands) : Bool :=
  i.floatsFit f o && (!i.readsBuffer || o.lengthAgrees)

/-- An operation as an agent may issue it: an allowed issuer and operand ports that go with it. -/
def Instr.wellFormed (f : FloatFmt) (i : Instr) (a : Issuer) (o : Operands) : Bool :=
  i.allowsIssuer a && i.operandsOk f o

end Sys2Proof
end

