-- ==== Sys2Proof/Decode.lean ====
section
/-! DEFINITION. The decoder, total on all 65536 command words (30_encoding.md R70 to R77), the encoder
after it, and the reading of the opcode table's rows. -/

namespace Sys2Proof

/-- Why a command word is refused (R76). -/
inductive DecodeError where
  /-- (a) the `OPC` is unassigned (R72). -/
  | unassignedOpcode (opc : Byte)
  /-- (b) `RSV ≠ 0`. -/
  | reservedBitsSet
  /-- (c) `A = 1` on an operation other than FWD_EDGE and BWD_EDGE. -/
  | strayActiveBit
  /-- (d) the issuer is not allowed for the operation (R73). -/
  | wrongIssuer (a : Issuer)
deriving DecidableEq, Repr

/-- `OPC`, bits 15:8 (R70). -/
def opcField (w : CmdWord) : Byte := w.extractLsb' 8 8

/-- `RSV`, bits 7:1 (R70). -/
def rsvField (w : CmdWord) : BitVec 7 := w.extractLsb' 1 7

/-- `A`, bit 0 (R70, R71). -/
def aField (w : CmdWord) : Bool := w.getLsbD 0

/-- The operation of an `OPC` value, given the `A` bit (R73); `none` for the values R72 lists. -/
def opcodeInstr (opc : Byte) (a : Bool) : Option Instr :=
  match opc.toNat with
  | 0x01 => some .start
  | 0x02 => some .stop
  | 0x03 => some .setOnWidth
  | 0x04 => some .runCycle
  | 0x08 => some (.fwdEdge a)
  | 0x09 => some (.bwdEdge a)
  | 0x10 => some .now
  | 0x11 => some .frequency
  | 0x12 => some .waitFor
  | 0x20 => some .decodeHumidity
  | 0x21 => some .decodeTemperatureC
  | 0x22 => some .decodeAdc12
  | 0x23 => some .decodeAdc10
  | 0x24 => some .encodePixelFrame
  | _ => none

/-- `A` is an operand of the two edge operations only (R70). -/
def Instr.hasActiveBit : Instr → Bool
  | .fwdEdge _ | .bwdEdge _ => true
  | .start | .stop | .setOnWidth | .runCycle | .now | .frequency | .waitFor => false
  | .decodeHumidity | .decodeTemperatureC | .decodeAdc12 | .decodeAdc10 | .encodePixelFrame => false

/-- The decoder of command words: an operation, or the name of the refusal (R76(a) to (c), R77). -/
def decode (w : CmdWord) : Except DecodeError Instr :=
  match opcodeInstr (opcField w) (aField w) with
  | none => .error (.unassignedOpcode (opcField w))
  | some i =>
    if rsvField w ≠ 0 then .error .reservedBitsSet
    else if aField w && !i.hasActiveBit then .error .strayActiveBit
    else .ok i

/-- The decoder with the issuer's check (R76(a) to (d)). -/
def decodeFor (a : Issuer) (w : CmdWord) : Except DecodeError Instr :=
  match decode w with
  | .error e => .error e
  | .ok i => if i.allowsIssuer a then .ok i else .error (.wrongIssuer a)

/-- The operation code of an operation (R73). -/
def Instr.opcode : Instr → Byte
  | .start => 0x01
  | .stop => 0x02
  | .setOnWidth => 0x03
  | .runCycle => 0x04
  | .fwdEdge _ => 0x08
  | .bwdEdge _ => 0x09
  | .now => 0x10
  | .frequency => 0x11
  | .waitFor => 0x12
  | .decodeHumidity => 0x20
  | .decodeTemperatureC => 0x21
  | .decodeAdc12 => 0x22
  | .decodeAdc10 => 0x23
  | .encodePixelFrame => 0x24

/-- The `A` bit of an operation's word (R70, R71). -/
def Instr.activeBit : Instr → Bool
  | .fwdEdge a => a
  | .bwdEdge a => a
  | .start | .stop | .setOnWidth | .runCycle | .now | .frequency | .waitFor => false
  | .decodeHumidity | .decodeTemperatureC | .decodeAdc12 | .decodeAdc10 | .encodePixelFrame => false

/-- The command word of an operation, `{OPC, 0b0000000, A}` (R73). -/
def encode (i : Instr) : CmdWord := i.opcode ++ (0 : BitVec 7) ++ BitVec.ofBool i.activeBit

/-- What the decoder reads from an instruction of `nbits` bits whose value is `w`. A command is one
16-bit word (R78), so a value of more bits is no command. The word has no byte order (DEDUCED, log entry
22). -/
def decodeTableWord (nbits w : Nat) : Option Instr :=
  if nbits ≤ 16 ∧ w < 2 ^ nbits then
    match decode (BitVec.ofNat 16 w) with
    | .ok i => some i
    | .error _ => none
  else none

end Sys2Proof
end

