-- ==== Sys2Proof/Machine/State.lean ====
section
/-! DEFINITION. The state of PULSEGEN as plain data (10_state.md), the outcomes and events of its
operations, the reset state (70_reset_and_hazards.md R230), and the names of the model's stops. -/

namespace Sys2Proof.Machine

/-- `GEN_STATE`, a 2-bit field with every encoding assigned (R23). -/
inductive GenState where
  /-- never started since reset -/
  | idle
  /-- SEQ executes cycles -/
  | running
  /-- stopped by a STOP that took effect -/
  | stopped
  /-- START found no pin controller -/
  | degraded
deriving DecidableEq, Repr

/-- The encoding of `GEN_STATE` (R23). -/
def GenState.code : GenState → BitVec 2
  | .idle => 0
  | .running => 1
  | .stopped => 2
  | .degraded => 3

/-- `SEQ_PH`, a 3-bit field (R25). Its value 7 is reserved and never held, so it has no name here. -/
inductive SeqPhase where
  | cycStart
  | hiWrite
  | hiWaitEnter
  | hiPoll
  | loWrite
  | loWaitEnter
  | loPoll
deriving DecidableEq, Repr

/-- The encoding of `SEQ_PH` (R25). -/
def SeqPhase.code : SeqPhase → BitVec 3
  | .cycStart => 0
  | .hiWrite => 1
  | .hiWaitEnter => 2
  | .hiPoll => 3
  | .loWrite => 4
  | .loWaitEnter => 5
  | .loPoll => 6

/-- The phase is one of the two poll phases, in which a busy-wait of the cycle is in progress (R112). -/
def SeqPhase.polls : SeqPhase → Bool
  | .hiPoll | .loPoll => true
  | .cycStart | .hiWrite | .hiWaitEnter | .loWrite | .loWaitEnter => false

/-- The level a `PinWrite` asks for (R127). -/
inductive Level where
  | low
  | high
deriving DecidableEq, Repr

/-- `PIN_LEVEL` (R31). -/
inductive PinLevel where
  | low
  | high
  | unknown
deriving DecidableEq, Repr

/-- The pin level a successful write of a level leaves (R31). -/
def Level.toPin : Level → PinLevel
  | .low => .low
  | .high => .high

/-- `STATUS` (R200). `writeFailure` has a code and is never driven on the port (R203). -/
inductive Status where
  | ok
  | hardwareUnavailable
  | invalidInput
  | writeFailure
deriving DecidableEq, Repr

/-- The `STATUS` codes (R200). -/
def Status.code : Status → Byte
  | .ok => 0
  | .hardwareUnavailable => 1
  | .invalidInput => 2
  | .writeFailure => 3

/-- `RES_UNIT` (R168). No operation produces `volt`. -/
inductive UnitCode where
  | celsius
  | relativeHumidityPercent
  | volt
  | adcCount
deriving DecidableEq, Repr

/-- The unit codes (R168). -/
def UnitCode.code : UnitCode → Byte
  | .celsius => 0
  | .relativeHumidityPercent => 1
  | .volt => 2
  | .adcCount => 3

/-- The result ports (R33). `none` is a port that the operation did not drive. -/
structure ResultPorts where
  /-- `STATUS` -/
  status : Option Status := none
  /-- `RES_F64` -/
  f64 : Option F64 := none
  /-- `RES_INT`, a u16 -/
  int : Option (BitVec 16) := none
  /-- `RES_TICK` -/
  tick : Option Nat := none
  /-- `RES_BYTES`, byte 0 first -/
  bytes : Option (List Byte) := none
  /-- `RES_UNIT` -/
  unit : Option UnitCode := none
deriving DecidableEq, Repr

/-- The value of one operand port, as a `Cmd` event records it (R14, R74). -/
inductive OperandValue where
  | f64 (x : F64)
  | pin (p : Option PinHandle)
  | bytes (b : List Byte)
  | len (n : Nat)
deriving DecidableEq, Repr

/-- The events of the trace (R14). -/
inductive Event where
  /-- An operation of HOST or EDGE: its agent, the operation, its operands, its status with the other
  result ports it drove, and the offending value of an InvalidInput (R200). An operation of SEQ has no
  such event (DEDUCED, log entry 16). -/
  | cmd (agent : Issuer) (op : Instr) (operands : List OperandValue) (result : ResultPorts)
      (offending : Option OperandValue)
  /-- A clock read (R101). -/
  | read (t : Nat)
  /-- A pin write, with the tick at which it took effect (R127, R128). -/
  | pin (t : Nat) (level : Level) (result : PinResult)
  /-- A cycle-start snapshot (R130). -/
  | snap (w : F64)
  /-- The sequencer stopped (R130). -/
  | stopped
deriving DecidableEq, Repr

/-- The machine: the registers of 10_state.md §1, the result ports, the trace and the mark `REFUSED`
that the spec gives the model, the interface's own ports, and the model's bookkeeping of whose move is
next. -/
structure State where
  /-- The construction constants (R30). -/
  cfg : Params
  /-- `ON_WIDTH`, 64 bits (R21). -/
  onWidth : F64
  /-- `PERIOD`, 64 bits (R22). -/
  period : F64
  /-- `GEN_STATE` (R23). -/
  genState : GenState
  /-- `STOP_REQ`, 1 bit (R24). -/
  stopReq : Bool
  /-- `SEQ_PH` (R25). -/
  seqPh : SeqPhase
  /-- `W_SNAP`, 64 bits (R26). -/
  wSnap : F64
  /-- `WAIT_DUR`, 64 bits (R27). -/
  waitDur : F64
  /-- `WAIT_T0` (R27). -/
  waitT0 : Nat
  /-- `WAIT_DELTA`, 64 bits (R27). -/
  waitDelta : F64
  /-- `PIN_BIND` (R28). -/
  pinBind : Option PinHandle
  /-- `T` (R29). -/
  t : Nat
  /-- `PIN_LEVEL` (R31). -/
  pinLevel : PinLevel
  /-- The result ports, as the last operation that drove them left them (R33; DESIGN CHOICE, log
  entry 20). -/
  res : ResultPorts
  /-- The event trace, oldest first (R14). -/
  trace : List Event
  /-- The run-wide mark `REFUSED` (R204). -/
  refused : Bool
  /-- A WAIT_FOR that was issued as an operation is between its entry step and its last poll (R104;
  DESIGN CHOICE, log entry 10). -/
  waitOp : Bool
  /-- The tick counter has wrapped since the entry read of the wait in progress (R238; DESIGN CHOICE,
  log entry 9). -/
  wrapped : Bool
  /-- The command ports: the command being served (R70, R74). -/
  bus : Command
  /-- The moves that are settled to come next, the first at the head (R212; DESIGN CHOICE, log entry
  5). -/
  agenda : List Move
  /-- How many stretches of free moves the run has taken up (R212, R213; DESIGN CHOICE, log entry 5). -/
  turn : Nat
deriving DecidableEq, Repr

/-- The reasons a step can stop the machine. -/
inductive Fault where
  /-- A `PinWrite` with `PIN_BIND = NONE`: R127 says a PinWrite is issued only while a writer is bound
  and gives it no effect otherwise. Raised by the HI_WRITE and LO_WRITE steps. Safe: no reachable state
  does so (the invariant of Safety.lean; DESIGN CHOICE, log entry 12). -/
  | noPinWriter
deriving DecidableEq, Repr

/-- The reasons the model has no meaning to offer. -/
inductive Refusal where
  /-- An instruction that has no meaning yet, named by its mnemonic. No arm raises it. Safe. A command
  word that the SPEC refuses does not end here: it sets the mark `REFUSED` and the run goes on (R204;
  DEDUCED, log entry 13). -/
  | notModelled (mnemonic : String)
deriving DecidableEq, Repr

/-- What stands on the command ports before the first command; no step reads it (DESIGN
CHOICE, log entry 6). -/
def idleBus : Command :=
  { issuer := .host, word := 0, operands := Operands.zero, pinAnswer := .ok }

/-- The state right after reset (R230, R231) of a block built with the parameters `p`, when `T` and the
three WAIT registers, which reset leaves open (R27, R29), hold the values given. Reset begins a run and
is no step of one (DEDUCED, log entry 19). -/
def State.resetWith (p : Params) (tick : Nat) (waitDur : F64) (waitT0 : Nat) (waitDelta : F64) :
    State :=
  { cfg := p
    onWidth := posZero
    period := p.periodDefault
    genState := .idle
    stopReq := false
    seqPh := .cycStart
    wSnap := posZero
    waitDur := waitDur
    waitT0 := waitT0
    waitDelta := waitDelta
    pinBind := none
    t := tick
    pinLevel := .unknown
    res := {}
    trace := []
    refused := false
    waitOp := false
    wrapped := false
    bus := idleBus
    agenda := []
    turn := 0 }

/-- The machine right after reset (R230): the parameters of `Config.params`, and the free values for
what reset draws or leaves unspecified. -/
def State.reset : State :=
  State.resetWith Config.params Config.resetTick Config.resetWaitDur Config.resetWaitT0
    Config.resetWaitDelta

end Sys2Proof.Machine
end

