-- ==== Sys2Proof/Machine/Operands.lean ====
section
/-! DEFINITION. Reading the operand ports (30_encoding.md R74, R75): the test of START's period, the
bytes of a buffer and the samples they make (20_memory.md R51 to R54), and the operand list that a
`Cmd` event records. -/

namespace Sys2Proof.Machine

/-- `FLOAT_FMT` of the block (R7). -/
def State.fmt (s : State) : FloatFmt := s.cfg.floatFmt

/-- `is_finite(P) and P > 0.0`, the periods START admits (R120). -/
def periodAdmitted (f : FloatFmt) (p : F64) : Bool := Float64.isFinite f p && Float64.gt f p posZero

/-- `buf[i]` (R11, R51). The operations read only below the length they have checked, so the byte
returned past the end is never used (DESIGN CHOICE, log entry 21). -/
def byteAt (buf : List Byte) (i : Nat) : Byte := buf.getD i 0

/-- The big-endian 16-bit sample `(zext_16(buf[0]) << 8) | zext_16(buf[1])` (R52). -/
def rawSample16 (buf : List Byte) : BitVec 16 :=
  (byteAt buf 0).setWidth 16 <<< 8 ||| (byteAt buf 1).setWidth 16

/-- The conversion result of a 3-byte ADC sample: the bits of byte 1 that `mask` keeps, then byte 2
(R54). -/
def adcSample (mask : BitVec 16) (buf : List Byte) : BitVec 16 :=
  ((byteAt buf 1).setWidth 16 &&& mask) <<< 8 ||| (byteAt buf 2).setWidth 16

/-- The operands of a command as its `Cmd` event records them: the ports R74 lists for the operation. -/
def operandList (i : Instr) (o : Operands) : List OperandValue :=
  match i with
  | .start => [.f64 o.periodIn, .pin o.pinIn]
  | .setOnWidth => [.f64 o.widthIn]
  | .waitFor => [.f64 o.durIn]
  | .stop | .runCycle | .fwdEdge _ | .bwdEdge _ | .now | .frequency => []
  | .decodeHumidity | .decodeTemperatureC | .decodeAdc12 | .decodeAdc10 | .encodePixelFrame =>
    [.bytes o.bufIn, .len o.lenIn]

end Sys2Proof.Machine
end

