-- ==== Sys2Proof/Machine/Flags.lean ====
section
/-! DEFINITION. The block has no condition codes and no status flags (10_state.md R32); every operation
reports its outcome on its result ports (R33). These are the port settings of the outcomes. -/

namespace Sys2Proof.Machine

/-- An operation that completes with no result but its status (R33, R74). -/
def okPorts : ResultPorts := { status := some .ok }

/-- An operation that completes with `RES_TICK` (R102, R103). -/
def okTick (n : Nat) : ResultPorts := { status := some .ok, tick := some n }

/-- A decode that completes with `RES_F64` and `RES_UNIT` (R161, R162). -/
def okF64 (x : F64) (u : UnitCode) : ResultPorts :=
  { status := some .ok, f64 := some x, unit := some u }

/-- A decode that completes with `RES_INT` and `RES_UNIT` (R163, R164). -/
def okInt (v : BitVec 16) (u : UnitCode) : ResultPorts :=
  { status := some .ok, int := some v, unit := some u }

/-- An encode that completes with `RES_BYTES` (R165). -/
def okBytes (b : List Byte) : ResultPorts := { status := some .ok, bytes := some b }

/-- An operation that ends with `raise E`: it drives `STATUS` only (R11, R33). -/
def raisePorts (e : Status) : ResultPorts := { status := some e }

end Sys2Proof.Machine
end

