-- ==== Sys2Proof/Machine/Ops.lean ====
section
/-! DEFINITION. The operations the meanings share: the command ports, the trace, the refusal mark, the
end of an operation by `return` or by `raise`, the clock and the busy-wait, the pin write, the clamp. -/

namespace Sys2Proof.Machine

/-- The state with a command on the command ports (R70, R74). -/
def State.present (s : State) (c : Command) : State := { s with bus := c }

/-- The state with one more event in the trace (R14). -/
def State.record (s : State) (e : Event) : State := { s with trace := s.trace ++ [e] }

/-- A refusal: the mark `REFUSED` is set and nothing else changes (R204). -/
def State.refuse (s : State) : State := { s with refused := true }

/-- The state with the result ports driven (R33). -/
def State.drive (s : State) (r : ResultPorts) : State := { s with res := r }

/-- The trace event of an operation of HOST or EDGE; an operation of SEQ has none (R14). -/
def State.recordCmd (s : State) (i : Instr) (r : ResultPorts) (offending : Option OperandValue) :
    State :=
  match s.bus.issuer with
  | .seq => s
  | .host => s.record (.cmd .host i (operandList i s.bus.operands) r offending)
  | .edge => s.record (.cmd .edge i (operandList i s.bus.operands) r offending)

/-- `return v`: the operation ends with the result ports `r`, whose status is OK (R11, R33). -/
def State.complete (s : State) (i : Instr) (r : ResultPorts) : State :=
  (s.drive r).recordCmd i r none

/-- `raise E(info)`: THE way an operation ends with an error (R11, R200, R206). It drives `STATUS` only,
records the offending value, saves nothing, changes no mode and transfers no control; the register
writes made before it stand. There is nothing to return from (R207). -/
def State.raise (s : State) (i : Instr) (e : Status) (info : Option OperandValue) : State :=
  (s.drive (raisePorts e)).recordCmd i (raisePorts e) info

/-- The tick after `t`, with a counter of `TICK_BITS` bits (R29, R100). -/
def nextTick (p : Params) (t : Nat) : Nat :=
  match p.tickBits with
  | none => t + 1
  | some n => (t + 1) % 2 ^ n

/-- CLK's step `T <- T + 1`; it records nothing (R100). A finite counter that wraps leaves its mark for
the wait in progress (R238; DESIGN CHOICE, log entry 9). -/
def State.clockTick (s : State) : State :=
  { s with t := nextTick s.cfg s.t, wrapped := s.wrapped || decide (nextTick s.cfg s.t < s.t + 1) }

/-- `Now()`: the clock is read, which only the trace shows (R58, R101). The value read is `s.t`. -/
def State.readClock (s : State) : State := s.record (.read s.t)

/-- The wait length in ticks, `(dur ⊗ to_F64(F_TICK)) ⊘ 1000.0` (R107). -/
def waitTicks (p : Params) (dur : F64) : F64 :=
  Float64.div p.floatFmt (Float64.mul p.floatFmt dur (Float64.ofNat p.floatFmt p.fTick))
    (Float64.literal p.floatFmt false 1000 1)

/-- `dur > 0.0`: the wait is not over before it begins (R104, R109). -/
def State.waitNeeded (s : State) (dur : F64) : Bool := Float64.gt s.fmt dur posZero

/-- The wait entry step, for a duration `dur > 0.0` (R105). -/
def State.waitEntry (s : State) (dur : F64) : State :=
  { s.readClock with
    waitDur := dur
    waitT0 := s.t
    waitDelta := waitTicks s.cfg dur
    wrapped := false }

/-- `(t - WAIT_T0) >= real(WAIT_DELTA)` at the current tick, compared exactly (R106). -/
def State.waitOver (s : State) : Bool := Float64.natGe s.fmt (s.t - s.waitT0) s.waitDelta

/-- The wait poll step (R106): the clock is read, and when the wait has ended `after` says what follows.
A poll whose wait straddles a wrap of the counter is refused (R238; DESIGN CHOICE, log entry 9). -/
def State.waitPoll (s : State) (after : State → State) : State :=
  if s.wrapped then s.refuse
  else if s.waitOver then after s.readClock
  else s.readClock

/-- `PinWrite(level)`: PINENV's answer is recorded with the tick, and the pin takes the level only when
the answer is OK (R127, R128, R31). `after` is the phase change, the same for every answer (R142). -/
def State.pinWrite (s : State) (level : Level) (after : State → State) :
    Host.Outcome State Fault Refusal :=
  match s.pinBind with
  | none => .fault .noPinWriter
  | some _ =>
    .next (after { s.record (.pin s.t level s.bus.pinAnswer) with
      pinLevel := if s.bus.pinAnswer = .ok then level.toPin else s.pinLevel })

/-- `clamp(v, P)` (R131). -/
def clamp (f : FloatFmt) (v p : F64) : F64 :=
  if Float64.gt f v p then p
  else if Float64.ge f v posZero then v
  else posZero

/-- The setpoint's one write port: an atomic store of the whole word, unclamped (R57, R62). -/
def State.writeOnWidth (s : State) (w : F64) : State := { s with onWidth := w }

end Sys2Proof.Machine
end

