-- ==== Sys2Proof/Machine/Clock.lean ====
section
/-! DEFINITION. The time base: NOW, FREQUENCY, WAIT_FOR (40_clock_and_wait.md). -/

namespace Sys2Proof.Machine

/-- NOW (R102). -/
def execNow (s : State) : Host.Outcome State Fault Refusal :=
  .next (s.readClock.complete .now (okTick s.t))

/-- FREQUENCY (R103). -/
def execFrequency (s : State) : Host.Outcome State Fault Refusal :=
  .next (s.complete .frequency (okTick s.cfg.fTick))

/-- One SEQ step of WAIT_FOR (R104): the entry step (R105), or, while the wait is in progress, a poll
step (R106). A duration that is not `> 0.0` returns at once (R109). `waitOp` tells the two
steps apart (DESIGN CHOICE, log entry 10). -/
def execWaitFor (s : State) : Host.Outcome State Fault Refusal :=
  if s.waitOp then .next (s.waitPoll fun u => { u with waitOp := false })
  else if s.waitNeeded s.bus.operands.durIn then
    .next { s.waitEntry s.bus.operands.durIn with waitOp := true }
  else .next s

end Sys2Proof.Machine
end

