-- ==== Sys2Proof/Machine/Codec.lean ====
section
/-! DEFINITION. The SensorCodec (43_sensor_codec.md). Its operations read their buffer and the
constants and write result ports only (R36, R170). -/

namespace Sys2Proof.Machine

/-- The end of a codec operation whose buffer has the wrong length: `raise InvalidInput(LEN_IN)`
(R160). -/
def State.wrongLength (s : State) (i : Instr) : State :=
  s.raise i .invalidInput (some (.len s.bus.operands.lenIn))

/-- `ratio = to_F64(raw16) ⊘ 65536.0` (R161, R162). -/
def sampleRatio (f : FloatFmt) (raw : BitVec 16) : F64 :=
  Float64.div f (Float64.ofNat f raw.toNat) (Float64.literal f false 65536 1)

/-- `(-6.0) ⊕ (125.0 ⊗ ratio)` (R161). -/
def humidity (f : FloatFmt) (raw : BitVec 16) : F64 :=
  Float64.add f (Float64.literal f true 6 1)
    (Float64.mul f (Float64.literal f false 125 1) (sampleRatio f raw))

/-- `(-46.85) ⊕ (175.72 ⊗ ratio)`, two roundings (R162, R172). -/
def temperatureC (f : FloatFmt) (raw : BitVec 16) : F64 :=
  Float64.add f (Float64.literal f true 4685 100)
    (Float64.mul f (Float64.literal f false 17572 100) (sampleRatio f raw))

/-- DECODE_HUMIDITY (R161). -/
def execDecodeHumidity (s : State) : Host.Outcome State Fault Refusal :=
  if s.bus.operands.lenIn ≠ 2 then .next (s.wrongLength .decodeHumidity)
  else
    .next (s.complete .decodeHumidity
      (okF64 (humidity s.fmt (rawSample16 s.bus.operands.bufIn)) .relativeHumidityPercent))

/-- DECODE_TEMPERATURE_C (R162). -/
def execDecodeTemperatureC (s : State) : Host.Outcome State Fault Refusal :=
  if s.bus.operands.lenIn ≠ 2 then .next (s.wrongLength .decodeTemperatureC)
  else
    .next (s.complete .decodeTemperatureC
      (okF64 (temperatureC s.fmt (rawSample16 s.bus.operands.bufIn)) .celsius))

/-- DECODE_ADC12 (R163). -/
def execDecodeAdc12 (s : State) : Host.Outcome State Fault Refusal :=
  if s.bus.operands.lenIn ≠ 3 then .next (s.wrongLength .decodeAdc12)
  else .next (s.complete .decodeAdc12 (okInt (adcSample 0x0F s.bus.operands.bufIn) .adcCount))

/-- DECODE_ADC10 (R164). -/
def execDecodeAdc10 (s : State) : Host.Outcome State Fault Refusal :=
  if s.bus.operands.lenIn ≠ 3 then .next (s.wrongLength .decodeAdc10)
  else .next (s.complete .decodeAdc10 (okInt (adcSample 0x03 s.bus.operands.bufIn) .adcCount))

/-- The pixel records of a buffer of r, g, b triples: `[BRIGHTNESS, b >> 1, g >> 1, r >> 1]` each, in
input order (R165). -/
def pixelRecords : List Byte → List Byte
  | r :: g :: b :: rest => Config.brightness :: b >>> 1 :: g >>> 1 :: r >>> 1 :: pixelRecords rest
  | [] => []
  | [_] => []
  | [_, _] => []

/-- The APA102 frame of `n` pixels: 4 zero bytes, the records, and `cdiv(n + 14, 16)` zero bytes (R165;
where R166 differs, DEDUCED, log entry 11). -/
def pixelFrame (n : Nat) (buf : List Byte) : List Byte :=
  List.replicate 4 0 ++ pixelRecords buf ++ List.replicate (cdiv (n + 14) 16) 0

/-- ENCODE_PIXEL_FRAME (R165). -/
def execEncodePixelFrame (s : State) : Host.Outcome State Fault Refusal :=
  let len := s.bus.operands.lenIn
  if len % 3 ≠ 0 ∨ s.cfg.maxPixels < len / 3 then .next (s.wrongLength .encodePixelFrame)
  else
    .next (s.complete .encodePixelFrame (okBytes (pixelFrame (len / 3) s.bus.operands.bufIn)))

end Sys2Proof.Machine
end

