-- ==== Sys2Proof/Machine/Generator.lean ====
section
/-! DEFINITION. The PulseGenerator: START, STOP, SET_ON_WIDTH, and RUN_CYCLE with its seven phase
steps (41_pulse_generator.md). -/

namespace Sys2Proof.Machine

/-- START (R120). The checks stand in the order of R205. -/
def execStart (s : State) : Host.Outcome State Fault Refusal :=
  let o := s.bus.operands
  if s.genState = .running then .next s.refuse
  else if !periodAdmitted s.fmt o.periodIn then
    .next (s.raise .start .invalidInput (some (.f64 o.periodIn)))
  else
    match o.pinIn with
    | none =>
      .next (State.raise
        { s with period := o.periodIn, stopReq := false, pinBind := none, genState := .degraded }
        .start .hardwareUnavailable none)
    | some h =>
      .next (State.complete
        { s with
          period := o.periodIn
          stopReq := false
          pinBind := some h
          seqPh := .cycStart
          genState := .running }
        .start okPorts)

/-- STOP (R122, R123). -/
def execStop (s : State) : Host.Outcome State Fault Refusal :=
  if s.genState = .running then .next (State.complete { s with stopReq := true } .stop okPorts)
  else .next (s.complete .stop okPorts)

/-- SET_ON_WIDTH (R124). -/
def execSetOnWidth (s : State) : Host.Outcome State Fault Refusal :=
  .next ((s.writeOnWidth s.bus.operands.widthIn).complete .setOnWidth okPorts)

/-- The CYC_START step (R130). -/
def cycStartStep (s : State) : State :=
  if s.stopReq then State.record { s with stopReq := false, genState := .stopped } .stopped
  else
    let w := clamp s.fmt s.onWidth s.period
    State.record
      { s with
        wSnap := w
        seqPh := if Float64.eq s.fmt w posZero then .loWrite else .hiWrite }
      (.snap w)

/-- The HI_WRITE step (R132). -/
def hiWriteStep (s : State) : Host.Outcome State Fault Refusal :=
  s.pinWrite .high fun u => { u with seqPh := .hiWaitEnter }

/-- The HI_WAIT_ENTER step (R133). `W_SNAP > 0.0` holds in every reachable state; where it does not, the
wait returns at once (R109) and the phase after the wait follows (DEDUCED, log entry 17). -/
def hiWaitEnterStep (s : State) : State :=
  if s.waitNeeded s.wSnap then { s.waitEntry s.wSnap with seqPh := .hiPoll }
  else { s with seqPh := .loWrite }

/-- The HI_POLL step (R134). -/
def hiPollStep (s : State) : State := s.waitPoll fun u => { u with seqPh := .loWrite }

/-- The LO_WRITE step (R135). -/
def loWriteStep (s : State) : Host.Outcome State Fault Refusal :=
  s.pinWrite .low fun u => { u with seqPh := .loWaitEnter }

/-- The duration of the LOW wait, `PERIOD - W_SNAP` (R136). -/
def State.lowWait (s : State) : F64 := Float64.sub s.fmt s.period s.wSnap

/-- The LO_WAIT_ENTER step (R136). -/
def loWaitEnterStep (s : State) : State :=
  if s.waitNeeded s.lowWait then { s.waitEntry s.lowWait with seqPh := .loPoll }
  else { s with seqPh := .cycStart }

/-- The LO_POLL step (R137). -/
def loPollStep (s : State) : State := s.waitPoll fun u => { u with seqPh := .cycStart }

/-- One SEQ step of RUN_CYCLE (R125): the phase step that `SEQ_PH` selects while RUNNING, and no step
at all in the other run states (R129). It drives no result port (R74). -/
def execRunCycle (s : State) : Host.Outcome State Fault Refusal :=
  if s.genState = .running then
    match s.seqPh with
    | .cycStart => .next (cycStartStep s)
    | .hiWrite => hiWriteStep s
    | .hiWaitEnter => .next (hiWaitEnterStep s)
    | .hiPoll => .next (hiPollStep s)
    | .loWrite => loWriteStep s
    | .loWaitEnter => .next (loWaitEnterStep s)
    | .loPoll => .next (loPollStep s)
  else .next s

end Sys2Proof.Machine
end

