-- ==== Sys2Proof/Machine/Latch.lean ====
section
/-! DEFINITION. The DirectionInputLatch: FWD_EDGE and BWD_EDGE (42_direction_latch.md). -/

namespace Sys2Proof.Machine

/-- FWD_EDGE (R150). -/
def execFwdEdge (active : Bool) (s : State) : Host.Outcome State Fault Refusal :=
  .next ((s.writeOnWidth (if active then s.cfg.fwdWidth else posZero)).complete
    (.fwdEdge active) okPorts)

/-- BWD_EDGE (R151). -/
def execBwdEdge (active : Bool) (s : State) : Host.Outcome State Fault Refusal :=
  .next ((s.writeOnWidth (if active then s.cfg.bwdWidth else posZero)).complete
    (.bwdEdge active) okPorts)

end Sys2Proof.Machine
end

