-- ==== Sys2Proof/Machine/Dispatch.lean ====
section
/-! DEFINITION. The dispatch of an operation to its meaning, one arm per row of the opcode table. -/

namespace Sys2Proof.Machine

def exec (i : Instr) (s : State) : Host.Outcome State Fault Refusal :=
  match i with
  | .start => Sys2Proof.Machine.execStart s
  | .stop => Sys2Proof.Machine.execStop s
  | .setOnWidth => Sys2Proof.Machine.execSetOnWidth s
  | .runCycle => Sys2Proof.Machine.execRunCycle s
  | .fwdEdge a => Sys2Proof.Machine.execFwdEdge a s
  | .bwdEdge a => Sys2Proof.Machine.execBwdEdge a s
  | .now => Sys2Proof.Machine.execNow s
  | .frequency => Sys2Proof.Machine.execFrequency s
  | .waitFor => Sys2Proof.Machine.execWaitFor s
  | .decodeHumidity => Sys2Proof.Machine.execDecodeHumidity s
  | .decodeTemperatureC => Sys2Proof.Machine.execDecodeTemperatureC s
  | .decodeAdc12 => Sys2Proof.Machine.execDecodeAdc12 s
  | .decodeAdc10 => Sys2Proof.Machine.execDecodeAdc10 s
  | .encodePixelFrame => Sys2Proof.Machine.execEncodePixelFrame s

end Sys2Proof.Machine
end

