-- ==== Sys2Proof/Machine/Schedule.lean ====
section
/-! DEFINITION. Whose move is next, and how a command that an agent issues is served: the interleaving
of agents (60_exceptions.md R212, R213), the sequencer's enabledness (R129), and the path from a command
word to its meaning (R70, R76, R204). -/

namespace Sys2Proof.Machine

/-- The move of an internal agent that closes the `n`-th stretch of free moves: CLK and SEQ by turns, so
that neither is left out of an infinite run (R213). -/
def fairMove (n : Nat) : Move :=
  if n % 2 = 0 then .clk else .seqTurn (Config.freePinAnswer n)

/-- The moves of the `n`-th stretch: any finite list of moves, then the fair one. A run whose every
stretch is free is any run that is weakly fair to CLK and SEQ (R213; DESIGN CHOICE, log entry 5). -/
def stretch (n : Nat) : List Move := Config.freeStretch n ++ [fairMove n]

/-- The next move and the state with that move taken off the agenda. When nothing is settled, the next
stretch of free moves is taken up. -/
def State.takeMove (s : State) : Move × State :=
  match s.agenda with
  | m :: rest => (m, { s with agenda := rest })
  | [] =>
    ((stretch s.turn).headD .clk, { s with agenda := (stretch s.turn).tail, turn := s.turn + 1 })

/-- What SEQ runs when it issues the operation `i`; `none` where it has no such step. It has no step
unless RUNNING (R129). RUN_CYCLE is its own step: the poll of a WAIT_FOR operation in progress (R112), or
else the phase step that `SEQ_PH` selects (R126, R129). Its other words (R27, R73, R212) are steps only
outside a wait (R112) and inside a cycle, since no step comes between one cycle and the next (R126;
DESIGN CHOICE, log entry 10). -/
def State.seqServes (s : State) (i : Instr) : Option Instr :=
  if s.genState ≠ .running then none
  else if i = .runCycle then some (if s.waitOp then .waitFor else .runCycle)
  else if s.waitOp || s.seqPh.polls || s.seqPh = .cycStart then none
  else some i

/-- What is run when the agent `a` issues the operation `i`: HOST and EDGE always have an enabled step,
SEQ only as `seqServes` says (R212). -/
def State.serves (s : State) (a : Issuer) (i : Instr) : Option Instr :=
  match a with
  | .host | .edge => some i
  | .seq => s.seqServes i

/-- A step of the agent that issues the command. Its word is decoded for the issuer, and refused where the
decoder refuses it (R72, R76, R204), whoever issues it and whenever. Operand ports that cannot stand with
the operation cannot be issued, so such a command is no step (R75; DEDUCED, log entry 8). -/
def serve (c : Command) (s : State) : Host.Outcome State Fault Refusal :=
  match decodeFor c.issuer c.word with
  | .error _ => .next s.refuse
  | .ok i =>
    match s.serves c.issuer i with
    | none => .next s
    | some j => if i.operandsOk s.fmt c.operands then exec j (s.present c) else .next s

/-- One move of the interleaving (R212). -/
def makeMove (m : Move) (s : State) : Host.Outcome State Fault Refusal :=
  match m with
  | .clk => .next s.clockTick
  | .issue c => serve c s

/-- The agent that issues a table word: SEQ for the two operations only SEQ may issue, HOST for all
other words (R73). -/
def tableIssuer (w : CmdWord) : Issuer :=
  match decodeFor .seq w, decodeFor .host w with
  | .ok _, .error _ => .seq
  | .ok _, .ok _ => .host
  | .error _, .ok _ => .host
  | .error _, .error _ => .host

/-- The command that carries a table word, its operand ports at zero. -/
def tableCommand (w : CmdWord) : Command :=
  { issuer := tableIssuer w, word := w, operands := Operands.zero, pinAnswer := .ok }

/-- SEQ made able to issue the word `w`: RUNNING, with no wait in progress (R112, R129), at the start of a
cycle for RUN_CYCLE and inside one for any other word (log entry 10). -/
def State.freeSeq (s : State) (w : CmdWord) : State :=
  { s with
    genState := .running
    seqPh := if w = 0x0400 then .cycStart else .loWrite
    waitOp := false }

/-- The state in which the next move is the issue of the table word `w`. -/
def State.withNextWord (s : State) (w : CmdWord) : State :=
  match tableIssuer w with
  | .seq => { s.freeSeq w with agenda := .issue (tableCommand w) :: s.agenda }
  | .host => { s with agenda := .issue (tableCommand w) :: s.agenda }
  | .edge => { s with agenda := .issue (tableCommand w) :: s.agenda }

end Sys2Proof.Machine
end

