-- ==== Sys2Proof/Machine/Step.lean ====
section
/-! DEFINITION. One step of the machine: the next move of the interleaving (60_exceptions.md R212). -/

namespace Sys2Proof.Machine

/-- One step: the next move is taken off the agenda and made. -/
def step (s : State) : Host.Outcome State Fault Refusal :=
  makeMove s.takeMove.1 s.takeMove.2

/-- The state in which the very next step issues the table instruction whose `nbits` bits are `w`: its
command is the next move, issued by an agent that may issue it. The block fetches nothing (R65), so a
command comes from outside; for a word only SEQ may issue, SEQ is put into RUNNING, since it has no step
otherwise, inside a cycle for WAIT_FOR (DESIGN CHOICE, log entry 7). -/
def State.withFetchWord (s : State) (nbits w : Nat) : State :=
  s.withNextWord (BitVec.ofNat 16 (w % 2 ^ nbits))

end Sys2Proof.Machine
end

