-- ==== Sys2Proof/Machine/Assembler.lean ====
section
/-! DEFINITION. The textual form of the operations (30_encoding.md R79) and the command each stands for.
How a number, a handle and a value without a decimal literal are spelled is the model's choice (DESIGN
CHOICE, log entry 23). -/

namespace Sys2Proof.Machine

/-- A pixel of the `px=` operand (R8, R79). -/
structure Pixel where
  r : Byte
  g : Byte
  b : Byte
deriving DecidableEq, Repr

/-- The `BUF_IN` bytes `r0 g0 b0 r1 g1 b1 ...` of a list of pixels (R79). -/
def pixelBytes : List Pixel → List Byte
  | [] => []
  | p :: rest => p.r :: p.g :: p.b :: pixelBytes rest

/-- An F64 operand as it is written: a decimal literal `digits / 10^scale` with its sign (R10, R79), or
one of the values no decimal literal names. -/
inductive F64Literal where
  | decimal (neg : Bool) (digits scale : Nat)
  | infinite (neg : Bool)
  | nan
deriving DecidableEq, Repr

/-- The pattern a literal stands for: the nearest F64 value (R10). A written NaN names no payload. -/
def F64Literal.bits (f : FloatFmt) : F64Literal → F64
  | .decimal neg digits scale => Float64.literal f neg digits (10 ^ scale)
  | .infinite neg => Float64.infinity f neg
  | .nan => Float64.nanOf f posZero posZero

/-- One line of the assembler: a mnemonic with its operands (R79). -/
inductive AsmLine where
  | start (period : F64Literal) (pin : Option PinHandle)
  | stop
  | setOnWidth (width : F64Literal)
  | fwdEdge (active : Bool)
  | bwdEdge (active : Bool)
  | now
  | frequency
  | waitFor (dur : F64Literal)
  | runCycle
  | decodeHumidity (buf : List Byte)
  | decodeTemperatureC (buf : List Byte)
  | decodeAdc12 (buf : List Byte)
  | decodeAdc10 (buf : List Byte)
  | encodePixelFrame (px : List Pixel)
deriving DecidableEq, Repr

/-- The operation a line names. -/
def AsmLine.instr : AsmLine → Instr
  | .start _ _ => .start
  | .stop => .stop
  | .setOnWidth _ => .setOnWidth
  | .fwdEdge a => .fwdEdge a
  | .bwdEdge a => .bwdEdge a
  | .now => .now
  | .frequency => .frequency
  | .waitFor _ => .waitFor
  | .runCycle => .runCycle
  | .decodeHumidity _ => .decodeHumidity
  | .decodeTemperatureC _ => .decodeTemperatureC
  | .decodeAdc12 _ => .decodeAdc12
  | .decodeAdc10 _ => .decodeAdc10
  | .encodePixelFrame _ => .encodePixelFrame

/-- `BUF_IN` with the `LEN_IN` that goes with it (R75). -/
def bufferOperands (buf : List Byte) : Operands :=
  { Operands.zero with bufIn := buf, lenIn := buf.length }

/-- The operand ports of a line (R74, R79). -/
def AsmLine.operands (f : FloatFmt) : AsmLine → Operands
  | .start p h => { Operands.zero with periodIn := p.bits f, pinIn := h }
  | .setOnWidth w => { Operands.zero with widthIn := w.bits f }
  | .waitFor d => { Operands.zero with durIn := d.bits f }
  | .decodeHumidity b => bufferOperands b
  | .decodeTemperatureC b => bufferOperands b
  | .decodeAdc12 b => bufferOperands b
  | .decodeAdc10 b => bufferOperands b
  | .encodePixelFrame px => bufferOperands (pixelBytes px)
  | .stop => Operands.zero
  | .fwdEdge _ => Operands.zero
  | .bwdEdge _ => Operands.zero
  | .now => Operands.zero
  | .frequency => Operands.zero
  | .runCycle => Operands.zero

/-- The command of a line, as the agent `a` issues it. -/
def AsmLine.command (f : FloatFmt) (a : Issuer) (r : PinResult) (l : AsmLine) : Command :=
  { issuer := a, word := encode l.instr, operands := l.operands f, pinAnswer := r }

/-- The mnemonic of an operation (R73). -/
def mnemonic : Instr → String
  | .start => "START"
  | .stop => "STOP"
  | .setOnWidth => "SET_ON_WIDTH"
  | .runCycle => "RUN_CYCLE"
  | .fwdEdge _ => "FWD_EDGE"
  | .bwdEdge _ => "BWD_EDGE"
  | .now => "NOW"
  | .frequency => "FREQUENCY"
  | .waitFor => "WAIT_FOR"
  | .decodeHumidity => "DECODE_HUMIDITY"
  | .decodeTemperatureC => "DECODE_TEMPERATURE_C"
  | .decodeAdc12 => "DECODE_ADC12"
  | .decodeAdc10 => "DECODE_ADC10"
  | .encodePixelFrame => "ENCODE_PIXEL_FRAME"

/-- The document's spelling of an operation (R79). -/
def documentForm : Instr → String
  | .start => "PulseGenerator.start(pinWriter, period)"
  | .stop => "(stop signal)"
  | .setOnWidth => "PulseGenerator.setOnWidth(width)"
  | .runCycle => "runCycle()"
  | .fwdEdge _ => "DirectionInputLatch.onForwardEdge(isActive)"
  | .bwdEdge _ => "DirectionInputLatch.onBackwardEdge(isActive)"
  | .now => "now()"
  | .frequency => "frequency()"
  | .waitFor => "waitFor(duration)"
  | .decodeHumidity => "decodeHumidity(raw)"
  | .decodeTemperatureC => "decodeTemperatureCelsius(raw)"
  | .decodeAdc12 => "decodeAdc12Bit(raw)"
  | .decodeAdc10 => "decodeAdc10Bit(raw)"
  | .encodePixelFrame => "encodePixelFrame(pixels)"

/-- A literal as text: sign, whole part, point, and at least one digit of the fraction (R79). -/
def F64Literal.text : F64Literal → String
  | .decimal neg digits scale =>
    let k := max scale 1
    let n := digits * 10 ^ (k - scale)
    let frac := toString (n % 10 ^ k)
    (if neg then "-" else "") ++ toString (n / 10 ^ k) ++ "."
      ++ String.ofList (List.replicate (k - frac.length) '0') ++ frac
  | .infinite neg => if neg then "-inf" else "inf"
  | .nan => "NaN"

/-- A byte as two hex digits (R79). R79 says no letter case; the model writes upper case, as the programs
of 95_test_vectors.md do (DESIGN CHOICE, log entry 23). -/
def hexByte (b : Byte) : String :=
  String.ofList [(Nat.digitChar (b.toNat / 16)).toUpper, (Nat.digitChar (b.toNat % 16)).toUpper]

/-- Texts with a comma between them. -/
def commaList (l : List String) : String := String.intercalate "," l

/-- The `buf=` operand. -/
def bufText (b : List Byte) : String := "buf=[" ++ commaList (b.map hexByte) ++ "]"

/-- One pixel of the `px=` operand. -/
def pixelText (p : Pixel) : String :=
  "(" ++ commaList [hexByte p.r, hexByte p.g, hexByte p.b] ++ ")"

/-- The operands of a line as text, each after a space (R79). A handle is written by its number. -/
def AsmLine.operandText : AsmLine → String
  | .start p h =>
    " period=" ++ p.text ++ " pin=" ++ (match h with | none => "NONE" | some n => toString n)
  | .setOnWidth w => " width=" ++ w.text
  | .fwdEdge a => " active=" ++ (if a then "1" else "0")
  | .bwdEdge a => " active=" ++ (if a then "1" else "0")
  | .waitFor d => " dur=" ++ d.text
  | .decodeHumidity b => " " ++ bufText b
  | .decodeTemperatureC b => " " ++ bufText b
  | .decodeAdc12 b => " " ++ bufText b
  | .decodeAdc10 b => " " ++ bufText b
  | .encodePixelFrame px => " px=[" ++ commaList (px.map pixelText) ++ "]"
  | .stop => ""
  | .now => ""
  | .frequency => ""
  | .runCycle => ""

/-- A line as text: "its mnemonic followed by its operands, with `key=value` pairs separated by spaces"
(R79). -/
def AsmLine.text (l : AsmLine) : String := mnemonic l.instr ++ l.operandText

end Sys2Proof.Machine
end

