-- ==== Sys2Proof/Safety.lean ====
section
/-! DEFINITION. What counts as a safe run, in the terms the statements use: the invariant of the
registers, the order of the trace's ticks, and the pulse train that a trace shows. -/

namespace Sys2Proof.Machine

/-- A claim about the block holds only for runs in which `REFUSED` is not set (R204). -/
def State.noRefusal (s : State) : Prop := s.refused = false

/-- A busy-wait is in progress: a WAIT_FOR issued as an operation, or the wait of a poll phase (R112). -/
def State.waiting (s : State) : Prop :=
  s.waitOp = true ∨ s.genState = .running ∧ s.seqPh.polls = true

/-- What the rules promise of the registers between any two steps. -/
structure State.Inv (s : State) : Prop where
  /-- A pin writer is bound while RUNNING (R120, R127). -/
  bound : s.genState = .running → s.pinBind ≠ none
  /-- A stop request stands only while RUNNING (R24). -/
  stopRunning : s.stopReq = true → s.genState = .running
  /-- A WAIT_FOR operation is in progress only while RUNNING, outside the poll phases, and inside a cycle
  (R112, R126, R129). -/
  opRunning : s.waitOp = true →
    s.genState = .running ∧ s.seqPh.polls = false ∧ s.seqPh ≠ .cycStart
  /-- PERIOD is finite and positive (R22). -/
  periodOk : periodAdmitted s.fmt s.period = true
  /-- Inside a cycle, `0.0 <= W_SNAP <= PERIOD` (R131, R136). -/
  snapRange : s.genState = .running → s.seqPh ≠ .cycStart →
    Float64.ge s.fmt s.wSnap posZero = true ∧ Float64.le s.fmt s.wSnap s.period = true
  /-- In the HIGH phase, `W_SNAP > 0.0` (R133). -/
  snapPositive : s.genState = .running →
    s.seqPh = .hiWrite ∨ s.seqPh = .hiWaitEnter ∨ s.seqPh = .hiPoll →
    Float64.gt s.fmt s.wSnap posZero = true
  /-- In HI_POLL the wait in progress is that of `W_SNAP` (R105, R133). -/
  highWait : s.genState = .running → s.seqPh = .hiPoll →
    s.waitDur = s.wSnap ∧ s.waitDelta = waitTicks s.cfg s.wSnap
  /-- In LO_POLL the wait in progress is that of `PERIOD - W_SNAP` (R105, R136). -/
  lowWait : s.genState = .running → s.seqPh = .loPoll →
    s.waitDur = s.lowWait ∧ s.waitDelta = waitTicks s.cfg s.lowWait
  /-- The entry read of a wait in progress is not after the current tick (R106). -/
  entryRead : s.waiting → s.wrapped = false → s.waitT0 ≤ s.t

/-- The parameters are admitted (R7). -/
structure Admitted (p : Params) : Prop where
  tickLow : 1 ≤ p.fTick
  tickHigh : p.fTick < 2 ^ 53
  periodOk : periodAdmitted p.floatFmt p.periodDefault = true

/-- The tick an event carries (R101, R128). -/
def eventTick : Event → Option Nat
  | .read t => some t
  | .pin t _ _ => some t
  | .cmd .. => none
  | .snap _ => none
  | .stopped => none

/-- The ticks of a trace, in step order. -/
def traceTicks (tr : List Event) : List Nat := tr.filterMap eventTick

/-- The ticks of the trace never decrease, and none is after the current tick (R101, R128). -/
def State.ticksOrdered (s : State) : Prop :=
  (traceTicks s.trace).Pairwise (· ≤ ·) ∧ ∀ x ∈ traceTicks s.trace, x ≤ s.t

/-- `need(d) = ceil(real((d ⊗ F_TICK) ⊘ 1000.0))` (R108, R139). -/
def need (p : Params) (d : F64) : Nat := Float64.ceilNat p.floatFmt (waitTicks p d)

/-- What a pulse train may show next (R125). -/
inductive Expect where
  /-- a snapshot, or the stop -/
  | snapshot
  /-- the HIGH write of the cycle -/
  | high
  /-- the LOW write of the cycle -/
  | low
deriving DecidableEq, Repr

/-- What a reader of the trace knows of the pulse train so far. -/
structure Train where
  /-- what comes next -/
  expect : Expect
  /-- the snapshot of the cycle -/
  snap : F64
  /-- the period of the last START that returned OK -/
  period : F64
  /-- the earliest tick the next pin write may have (R139) -/
  due : Nat
deriving DecidableEq, Repr

/-- The train before any event. -/
def Train.empty : Train := { expect := .snapshot, snap := posZero, period := posZero, due := 0 }

/-- One event of the train; `none` when the event breaks it. A cycle is a snapshot, a HIGH write unless
the snapshot is zero, and a LOW write (R125, R140), each write no earlier than the wait before it allows
(R139); the train stops only between cycles (R130, R145). -/
def trainStep (p : Params) (tr : Train) (e : Event) : Option Train :=
  match e with
  | .read _ => some tr
  | .cmd _ op operands result _ =>
    match op, operands with
    | .start, .f64 period :: _ =>
      if result.status = some .ok then some { tr with period := period } else some tr
    | _, _ => some tr
  | .snap w =>
    if tr.expect = .snapshot then
      some { tr with
        snap := w
        expect := if Float64.eq p.floatFmt w posZero then .low else .high }
    else none
  | .pin t .high _ =>
    if tr.expect = .high ∧ tr.due ≤ t then
      some { tr with expect := .low, due := t + need p tr.snap }
    else none
  | .pin t .low _ =>
    if tr.expect = .low ∧ tr.due ≤ t then
      some { tr with
        expect := .snapshot
        due := t + need p (Float64.sub p.floatFmt tr.period tr.snap) }
    else none
  | .stopped => if tr.expect = .snapshot then some tr else none

/-- The train a trace shows; `none` when the trace breaks the rules of a train. -/
def trainOf (p : Params) (events : List Event) : Option Train :=
  events.foldl (fun acc e => acc.bind fun tr => trainStep p tr e) (some Train.empty)

/-- How the registers stand to the train in each phase of a cycle: what may come next, the snapshot the
cycle runs on, and how late the next pin write must be. -/
def State.phaseFollows (s : State) (tr : Train) : Prop :=
  match s.seqPh with
  | .cycStart => tr.expect = .snapshot ∧ tr.due ≤ s.t
  | .hiWrite => tr.expect = .high ∧ tr.snap = s.wSnap ∧ tr.due ≤ s.t
  | .hiWaitEnter => tr.expect = .low ∧ tr.snap = s.wSnap ∧ tr.due ≤ s.t + need s.cfg s.wSnap
  | .hiPoll => tr.expect = .low ∧ tr.snap = s.wSnap ∧ tr.due ≤ s.waitT0 + need s.cfg s.wSnap
  | .loWrite => tr.expect = .low ∧ tr.snap = s.wSnap ∧ tr.due ≤ s.t
  | .loWaitEnter => tr.expect = .snapshot ∧ tr.due ≤ s.t + need s.cfg s.lowWait
  | .loPoll => tr.expect = .snapshot ∧ tr.due ≤ s.waitT0 + need s.cfg s.lowWait

/-- How the registers stand to the train that the trace has shown. -/
def State.follows (s : State) (tr : Train) : Prop :=
  (s.genState = .running → tr.period = s.period ∧ s.phaseFollows tr) ∧
  (s.genState ≠ .running → tr.expect = .snapshot ∧ tr.due ≤ s.t)

/-- The trace shows a pulse train, and the registers stand where it says: every HIGH phase and every LOW
phase so far has lasted its lower bound (R139, R246). -/
def State.trainHolds (s : State) : Prop := ∃ tr, trainOf s.cfg s.trace = some tr ∧ s.follows tr

/-- The step from `s` to `u` leaves every register of 10_state.md, the constants and the pin as they
were: only ports, trace, mark and the model's bookkeeping may differ. -/
structure SameRegisters (s u : State) : Prop where
  cfg : u.cfg = s.cfg
  onWidth : u.onWidth = s.onWidth
  period : u.period = s.period
  genState : u.genState = s.genState
  stopReq : u.stopReq = s.stopReq
  seqPh : u.seqPh = s.seqPh
  wSnap : u.wSnap = s.wSnap
  waitDur : u.waitDur = s.waitDur
  waitT0 : u.waitT0 = s.waitT0
  waitDelta : u.waitDelta = s.waitDelta
  pinBind : u.pinBind = s.pinBind
  t : u.t = s.t
  pinLevel : u.pinLevel = s.pinLevel

/-- The value an edge operation or SET_ON_WIDTH writes to the setpoint (R124, R150, R151). -/
def setpointOf (p : Params) (o : Operands) : Instr → Option F64
  | .setOnWidth => some o.widthIn
  | .fwdEdge a => some (if a then p.fwdWidth else posZero)
  | .bwdEdge a => some (if a then p.bwdWidth else posZero)
  | .start | .stop | .runCycle | .now | .frequency | .waitFor => none
  | .decodeHumidity | .decodeTemperatureC | .decodeAdc12 | .decodeAdc10 | .encodePixelFrame => none

/-- Operations one after the other, each with its own operand ports. -/
def execAll : List (Instr × Command) → State → Host.Outcome State Fault Refusal
  | [], s => .next s
  | (i, c) :: rest, s =>
    match exec i (s.present c) with
    | .next u => execAll rest u
    | .fault r => .fault r
    | .refused r => .refused r

/-- The issuer column of the table by `OPC` (R73). -/
def issuerTable : List (Nat × Issuer) :=
  [(0x01, .host), (0x02, .host), (0x03, .host), (0x03, .edge), (0x04, .seq), (0x08, .edge),
    (0x08, .host), (0x09, .edge), (0x09, .host), (0x10, .host), (0x10, .seq), (0x11, .host),
    (0x11, .seq), (0x12, .seq), (0x20, .host), (0x21, .host), (0x22, .host), (0x23, .host),
    (0x24, .host)]

/-- The operation `i` is issued as the word `w`, by the agents of `issuers` and by no other (R73). -/
def IssuedAs (i : Instr) (w : CmdWord) (issuers : List Issuer) : Prop :=
  decode w = .ok i ∧ ∀ a : Issuer, i.allowsIssuer a = true ↔ a ∈ issuers

/-- The finite value `r` is nearest to `v`, and where another value is as near, the last bit of its pattern
is 0 (R10). -/
def nearestTo (f : FloatFmt) (v : Rat) (r : F64) : Prop :=
  ∀ z : F64, Float64.isFinite f z = true →
    |Float64.real f r - v| ≤ |Float64.real f z - v| ∧
    (|Float64.real f r - v| = |Float64.real f z - v| → Float64.real f r ≠ Float64.real f z →
      r.toNat % 2 = 0)

/-- Half a last place past the largest finite value of the format: 2^1024 - 2^970 or 2^128 - 2^103. -/
def overflowBound (f : FloatFmt) : Rat :=
  (2 - 1 / 2 ^ (f.fracBits + 1)) * 2 ^ (2 ^ (f.expBits - 1) - 1)

/-- `r` is the result of rounding `v` to nearest, ties to even (R10): the nearest finite value below the
overflow bound, and the infinity of the sign of `v` from the bound on. -/
def roundsTo (f : FloatFmt) (v : Rat) (r : F64) : Prop :=
  (|v| < overflowBound f → Float64.isFinite f r = true ∧ nearestTo f v r) ∧
  (overflowBound f ≤ |v| → r = Float64.infinity f (decide (v < 0)))

end Sys2Proof.Machine
end

