-- ==== Sys2Proof/Certificates/Slice0/Obligations.lean ====
section
/-! DEFINITION. The statements about the model, for the provers. Each docstring names the rule of the
spec it formalises, or says that it states the model's own choice. -/

open Sys2Proof Sys2Proof.Machine

/-! ### Encoding -/

/-- R73: the 16 command words of the table and the operation each stands for, and which agents may issue
each operation. -/
def Obligations.CommandWordTable : Prop :=
  decode 0x0100 = .ok .start ∧ decode 0x0200 = .ok .stop ∧ decode 0x0300 = .ok .setOnWidth ∧
  decode 0x0400 = .ok .runCycle ∧ decode 0x0800 = .ok (.fwdEdge false) ∧
  decode 0x0801 = .ok (.fwdEdge true) ∧ decode 0x0900 = .ok (.bwdEdge false) ∧
  decode 0x0901 = .ok (.bwdEdge true) ∧ decode 0x1000 = .ok .now ∧
  decode 0x1100 = .ok .frequency ∧ decode 0x1200 = .ok .waitFor ∧
  decode 0x2000 = .ok .decodeHumidity ∧ decode 0x2100 = .ok .decodeTemperatureC ∧
  decode 0x2200 = .ok .decodeAdc12 ∧ decode 0x2300 = .ok .decodeAdc10 ∧
  decode 0x2400 = .ok .encodePixelFrame ∧
  ∀ (i : Instr) (a : Issuer), i.allowsIssuer a = true ↔ (i.opcode.toNat, a) ∈ issuerTable

/-- R77: the decoder is total, it reads each operation back from its own word, no other word decodes to
it, and the accepted words are 16 in all. -/
def Obligations.DecodeAcceptsExactlyTheEncodedWords : Prop :=
  (∀ i : Instr, decode (encode i) = .ok i) ∧
  (∀ (w : CmdWord) (i : Instr), decode w = .ok i → w = encode i) ∧
  (∀ w : CmdWord, (∃ i, decode w = .ok i) ∨ (∃ e, decode w = .error e)) ∧
  ∃ l : List CmdWord, l.length = 16 ∧ l.Nodup ∧ ∀ w : CmdWord, (∃ i, decode w = .ok i) ↔ w ∈ l

/-- R72, R76: a command word of an issuer is refused exactly when its OPC is unassigned, or RSV is not 0,
or A is 1 on an operation that is no edge operation, or the table does not list the issuer. -/
def Obligations.RefusedExactlyByTheFourGrounds : Prop :=
  ∀ (a : Issuer) (w : CmdWord),
    (∃ e, decodeFor a w = .error e) ↔
      (let opc := w.toNat / 256
       (opc = 0x00 ∨ (0x05 ≤ opc ∧ opc ≤ 0x07) ∨ (0x0A ≤ opc ∧ opc ≤ 0x0F) ∨
          (0x13 ≤ opc ∧ opc ≤ 0x1F) ∨ (0x25 ≤ opc ∧ opc ≤ 0xFF)) ∨
        w.toNat / 2 % 128 ≠ 0 ∨
        (w.toNat % 2 = 1 ∧ opc ≠ 0x08 ∧ opc ≠ 0x09) ∨
        (opc, a) ∉ issuerTable)

/-- R74, R75, R79: a line of the assembler stands for a command whose word decodes to the operation the line
names and whose operand ports go with it, so an allowed issuer can issue it. Each operand stands on its
port: the period and the handle of START, the width, the duration, the bytes of a buffer with their
length, and the bytes `r0 g0 b0 r1 g1 b1 ...` of the pixels. A decimal literal stands for the F64 value
nearest to it (R10). R79 admits decimal literals only: that a NaN and an infinity can be written, and
stand for a NaN (of free pattern) and the infinity, is the model's choice (log entries 23 and 4). That a
command carries PINENV's answer is the model's choice too (log entry 5). -/
def Obligations.AssembledLineIsIssuable : Prop :=
  (∀ (f : FloatFmt) (a : Issuer) (r : PinResult) (l : AsmLine), l.instr.allowsIssuer a = true →
    (l.command f a r).issuer = a ∧ (l.command f a r).pinAnswer = r ∧
    decodeFor a (l.command f a r).word = .ok l.instr ∧
    l.instr.wellFormed f a (l.command f a r).operands = true) ∧
  (∀ (f : FloatFmt) (a : Issuer) (r : PinResult) (x : F64Literal) (h : Option PinHandle),
    ((AsmLine.start x h).command f a r).operands.periodIn = x.bits f ∧
    ((AsmLine.start x h).command f a r).operands.pinIn = h ∧
    ((AsmLine.setOnWidth x).command f a r).operands.widthIn = x.bits f ∧
    ((AsmLine.waitFor x).command f a r).operands.durIn = x.bits f) ∧
  (∀ (f : FloatFmt) (a : Issuer) (r : PinResult) (buf : List Byte) (l : AsmLine),
    (l = .decodeHumidity buf ∨ l = .decodeTemperatureC buf ∨ l = .decodeAdc12 buf ∨
      l = .decodeAdc10 buf) →
    (l.command f a r).operands.bufIn = buf ∧ (l.command f a r).operands.lenIn = buf.length) ∧
  (∀ (f : FloatFmt) (a : Issuer) (r : PinResult) (px : List Pixel),
    let o := ((AsmLine.encodePixelFrame px).command f a r).operands
    o.lenIn = 3 * px.length ∧ o.bufIn.length = 3 * px.length ∧
    ∀ (k : Nat) (p : Pixel), px[k]? = some p →
      o.bufIn[3 * k]? = some p.r ∧ o.bufIn[3 * k + 1]? = some p.g ∧ o.bufIn[3 * k + 2]? = some p.b) ∧
  (∀ (f : FloatFmt) (neg : Bool) (digits scale : Nat),
    roundsTo f ((if neg then -1 else 1) * (digits : Rat) / 10 ^ scale)
      ((F64Literal.decimal neg digits scale).bits f)) ∧
  ∀ (f : FloatFmt) (neg : Bool), Float64.isNaN f (F64Literal.nan.bits f) = true ∧
    (F64Literal.infinite neg).bits f = Float64.infinity f neg

/-! ### Steps, agents and refusals -/

/-- R70, R212: a command that the agenda gives the turn, whose word decodes for its issuer and whose
operand ports go with it, runs as the decoded operation, on the state with that command on the command
ports and the move taken off the agenda. For SEQ this is so while RUNNING with no WAIT_FOR in progress: for
RUN_CYCLE always, and for NOW, FREQUENCY and WAIT_FOR inside a cycle and outside its poll phases (the
model's choice, log entry 10). The agenda is the model's choice (log entry 5). -/
def Obligations.StepRunsTheIssuedCommand : Prop :=
  ∀ (s : State) (c : Command) (rest : List Move) (i : Instr),
    s.agenda = .issue c :: rest → decodeFor c.issuer c.word = .ok i →
    i.operandsOk s.fmt c.operands = true →
    (c.issuer = .seq → s.genState = .running ∧ s.waitOp = false ∧
      (i = .runCycle ∨ s.seqPh.polls = false ∧ s.seqPh ≠ .cycStart)) →
    step s = exec i { s with agenda := rest, bus := c }

/-- R72, R76, R204: a refused command word, whoever issues it and in whatever state, changes no state and
produces no result; it sets the mark REFUSED. The agenda is the model's choice (log entry 5). -/
def Obligations.RefusedWordSetsOnlyTheMark : Prop :=
  ∀ (s : State) (c : Command) (rest : List Move) (e : DecodeError),
    s.agenda = .issue c :: rest → decodeFor c.issuer c.word = .error e →
    step s = .next { s with agenda := rest, refused := true }

/-- R204: the mark REFUSED, once set, is cleared by no later step. -/
def Obligations.RefusedMarkIsNeverCleared : Prop :=
  ∀ s u : State, step s = .next u → s.refused = true → u.refused = true

/-- R75: operand ports that cannot stand with an operation cannot be issued. The model's choice (log
entry 8): such a move is no step of the block, it only leaves the agenda. -/
def Obligations.UnissuableOperandsAreNoStep : Prop :=
  ∀ (s : State) (c : Command) (rest : List Move) (i : Instr),
    s.agenda = .issue c :: rest → decodeFor c.issuer c.word = .ok i →
    i.operandsOk s.fmt c.operands = false → step s = .next { s with agenda := rest }

/-- R129: in IDLE, STOPPED and DEGRADED, SEQ has no step. A word it may issue then changes nothing but the
agenda (the model's choice, log entry 5). -/
def Obligations.SeqHasNoStepUnlessRunning : Prop :=
  ∀ (s : State) (c : Command) (rest : List Move) (i : Instr),
    s.agenda = .issue c :: rest → c.issuer = .seq → decodeFor .seq c.word = .ok i →
    s.genState ≠ .running →
    step s = .next { s with agenda := rest } ∧ exec .runCycle s = .next s

/-- R126: while RUNNING, SEQ executes RUN_CYCLE again and again without a gap. Its RUN_CYCLE is the phase
step that SEQ_PH selects. At CYC_START no other word of SEQ is a step, so the step after the last one of a
cycle is the CYC_START step of the next; and no other word of SEQ, inside a cycle, changes a register of
the loop. That SEQ issues its other words inside a cycle is the model's choice (log entry 10). -/
def Obligations.SeqRunsTheLoopWithoutAGap : Prop :=
  ∀ (s : State) (c : Command) (rest : List Move) (i : Instr),
    s.agenda = .issue c :: rest → c.issuer = .seq → decodeFor .seq c.word = .ok i →
    s.genState = .running →
    (i = .runCycle → s.waitOp = false →
      step s = exec .runCycle { s with agenda := rest, bus := c }) ∧
    (i ≠ .runCycle → s.seqPh = .cycStart → step s = .next { s with agenda := rest }) ∧
    (i ≠ .runCycle → ∀ u : State, step s = .next u →
      u.genState = s.genState ∧ u.stopReq = s.stopReq ∧ u.seqPh = s.seqPh ∧ u.wSnap = s.wSnap ∧
      u.onWidth = s.onWidth ∧ u.period = s.period ∧ u.pinBind = s.pinBind ∧
      u.pinLevel = s.pinLevel ∧ u.t = s.t)

/-- R112: while a wait is in progress, SEQ takes only that wait's poll steps: its turn is the poll, and no
other word it may issue is a step. The bit `waitOp` is the model's choice (log entry 10). -/
def Obligations.SeqInAWaitTakesOnlyPollSteps : Prop :=
  ∀ (s : State) (c : Command) (rest : List Move) (i : Instr),
    s.agenda = .issue c :: rest → c.issuer = .seq → decodeFor .seq c.word = .ok i →
    s.genState = .running →
    (i = .runCycle → s.waitOp = true →
      step s = exec .waitFor { s with agenda := rest, bus := c }) ∧
    (i = .runCycle → s.waitOp = false → s.seqPh.polls = true →
      step s = exec .runCycle { s with agenda := rest, bus := c }) ∧
    (i ≠ .runCycle → s.waitOp = true ∨ s.seqPh.polls = true →
      step s = .next { s with agenda := rest })

/-- R100: CLK's step is `T <- T + 1` and records nothing, with the counter that does not wrap. With a
counter of n bits (R238) it goes on from 0 after 2^n - 1 and marks the wrap for the wait in progress;
that the mark is a register is the model's choice (log entry 9). -/
def Obligations.ClockStepAddsOneTick : Prop :=
  ∀ (s : State) (rest : List Move), s.agenda = .clk :: rest →
    (s.cfg.tickBits = none → step s = .next { s with agenda := rest, t := s.t + 1 }) ∧
    (∀ n, s.cfg.tickBits = some n → s.t + 1 < 2 ^ n →
      step s = .next { s with agenda := rest, t := s.t + 1 }) ∧
    (∀ n, s.cfg.tickBits = some n → s.t + 1 = 2 ^ n →
      step s = .next { s with agenda := rest, t := 0, wrapped := true })

/-- R212, R213: where no move is settled, the next stretch of free moves is taken up, and it ends with a
move of CLK or SEQ by turns. The form of the agenda is the model's choice (log entry 5). -/
def Obligations.UnsettledMovesAreFree : Prop :=
  ∀ s : State, s.agenda = [] →
    step s = step { s with
      agenda := Config.freeStretch s.turn ++
        [if s.turn % 2 = 0 then .clk else .seqTurn (Config.freePinAnswer s.turn)]
      turn := s.turn + 1 }

/-! ### Time base -/

/-- R102: NOW is the word 0x1000 of HOST and SEQ. It returns the current tick and records the read; an
operation of HOST is recorded after it, an operation of SEQ is not (R14). That the Read event stands
before the Cmd event is the model's reading (log entry 16). -/
def Obligations.NowReturnsTheTick : Prop :=
  IssuedAs .now 0x1000 [.host, .seq] ∧
  ∀ s : State,
    (s.bus.issuer = .host → exec .now s = .next { s with
      res := { status := some .ok, tick := some s.t }
      trace := s.trace ++ [.read s.t] ++
        [.cmd .host .now [] { status := some .ok, tick := some s.t } none] }) ∧
    (s.bus.issuer = .seq → exec .now s = .next { s with
      res := { status := some .ok, tick := some s.t }
      trace := s.trace ++ [.read s.t] })

/-- R103: FREQUENCY is the word 0x1100 of HOST and SEQ. It returns F_TICK and does not read the clock. -/
def Obligations.FrequencyReturnsTheTickRate : Prop :=
  IssuedAs .frequency 0x1100 [.host, .seq] ∧
  ∀ s : State,
    (s.bus.issuer = .host → exec .frequency s = .next { s with
      res := { status := some .ok, tick := some s.cfg.fTick }
      trace := s.trace ++
        [.cmd .host .frequency [] { status := some .ok, tick := some s.cfg.fTick } none] }) ∧
    (s.bus.issuer = .seq → exec .frequency s = .next { s with
      res := { status := some .ok, tick := some s.cfg.fTick } })

/-- R104, R105, R109: WAIT_FOR begins with the entry step when its duration is `> 0.0`: one clock read,
the three WAIT registers written. Any other duration, NaN included, returns at once with no clock read
and no WAIT register written. The bits `waitOp` and `wrapped` are the model's choice (log entries 9, 10). -/
def Obligations.WaitForBeginsOrReturnsAtOnce : Prop :=
  ∀ s : State, s.waitOp = false →
    (Float64.gt s.fmt s.bus.operands.durIn posZero = true → exec .waitFor s = .next { s with
      waitDur := s.bus.operands.durIn
      waitT0 := s.t
      waitDelta := Float64.div s.fmt
        (Float64.mul s.fmt s.bus.operands.durIn (Float64.ofNat s.fmt s.cfg.fTick))
        (Float64.literal s.fmt false 1000 1)
      wrapped := false
      waitOp := true
      trace := s.trace ++ [.read s.t] }) ∧
    (Float64.gt s.fmt s.bus.operands.durIn posZero = false → exec .waitFor s = .next s)

/-- R106: a poll step of WAIT_FOR reads the clock; the wait ends when the elapsed ticks reach the exact
wait length, and goes on otherwise. The bit `waitOp` is the model's choice (log entry 10). -/
def Obligations.WaitForPollEndsWhenTheTicksHaveElapsed : Prop :=
  ∀ s : State, s.waitOp = true → s.wrapped = false →
    (Float64.natGe s.fmt (s.t - s.waitT0) s.waitDelta = true → exec .waitFor s = .next { s with
      waitOp := false, trace := s.trace ++ [.read s.t] }) ∧
    (Float64.natGe s.fmt (s.t - s.waitT0) s.waitDelta = false → exec .waitFor s = .next { s with
      trace := s.trace ++ [.read s.t] })

/-- R204, R238: a wait whose entry and ending reads straddle a wrap of a finite counter is refused, not
computed. The model's choice is how: a mark records the wrap, and every later poll of the wait, in
WAIT_FOR and in both poll phases of RUN_CYCLE, sets REFUSED and nothing else (log entry 9); the bit
`waitOp` tells a WAIT_FOR in progress (log entry 10). -/
def Obligations.WaitAcrossAWrapIsRefused : Prop :=
  ∀ s : State, s.wrapped = true →
    (s.waitOp = true → exec .waitFor s = .next { s with refused := true }) ∧
    (s.genState = .running → s.seqPh.polls = true →
      exec .runCycle s = .next { s with refused := true })

/-- R107: the wait length is `(dur ⊗ to_F64(F_TICK)) ⊘ 1000.0`. For every duration `> 0.0` and every
admitted F_TICK it is +0.0, a positive finite value, or +∞; it is never NaN and never negative. -/
def Obligations.WaitLengthIsNeverNaNOrNegative : Prop :=
  ∀ (p : Params) (dur : F64), 1 ≤ p.fTick → p.fTick < 2 ^ 53 →
    Float64.gt p.floatFmt dur posZero = true →
    waitTicks p dur = Float64.div p.floatFmt
      (Float64.mul p.floatFmt dur (Float64.ofNat p.floatFmt p.fTick))
      (Float64.literal p.floatFmt false 1000 1) ∧
    (waitTicks p dur = posZero ∨
      (Float64.isFinite p.floatFmt (waitTicks p dur) = true ∧
        Float64.gt p.floatFmt (waitTicks p dur) posZero = true) ∨
      waitTicks p dur = Float64.infinity p.floatFmt false)

/-- R108: for a finite wait length `>= 0.0` the exact poll test equals `n >= need` with `need` the
ceiling of its real value. A length of +0.0 needs no tick. -/
def Obligations.PollTestIsTheCeilingTest : Prop :=
  ∀ (f : FloatFmt) (x : F64), Float64.isFinite f x = true → Float64.ge f x posZero = true →
    (Float64.ceilNat f x : Int) = ⌈Float64.real f x⌉ ∧
    (∀ n : Nat, Float64.natGe f n x = true ↔ Float64.ceilNat f x ≤ n) ∧
    (x = posZero → Float64.ceilNat f x = 0)

/-- R110: a wait whose length is +∞ never ends: every poll only reads the clock and the wait goes on, in
WAIT_FOR and in both poll phases of RUN_CYCLE. -/
def Obligations.WaitOfInfiniteLengthNeverEnds : Prop :=
  ∀ s : State, s.waitDelta = Float64.infinity s.fmt false → s.wrapped = false →
    (s.waitOp = true → exec .waitFor s = .next { s with trace := s.trace ++ [.read s.t] }) ∧
    (s.genState = .running → s.seqPh.polls = true →
      exec .runCycle s = .next { s with trace := s.trace ++ [.read s.t] })

/-- R10: the four arithmetic operations on finite operands, the conversion of a natural and a decimal
literal round the exact result once, to nearest, ties to even; an exact result past the largest finite
value by half a last place or more becomes the infinity of its sign. -/
def Obligations.ArithmeticRoundsToNearestEven : Prop :=
  (∀ (f : FloatFmt) (x y : F64), Float64.isFinite f x = true → Float64.isFinite f y = true →
    roundsTo f (Float64.real f x + Float64.real f y) (Float64.add f x y) ∧
    roundsTo f (Float64.real f x - Float64.real f y) (Float64.sub f x y) ∧
    roundsTo f (Float64.real f x * Float64.real f y) (Float64.mul f x y) ∧
    (Float64.real f y ≠ 0 →
      roundsTo f (Float64.real f x / Float64.real f y) (Float64.div f x y))) ∧
  (∀ (f : FloatFmt) (n : Nat), roundsTo f n (Float64.ofNat f n)) ∧
  ∀ (f : FloatFmt) (neg : Bool) (num den : Nat), den ≠ 0 →
    roundsTo f ((if neg then -1 else 1) * (num : Rat) / den) (Float64.literal f neg num den)

/-- R10: on finite operands the comparisons are those of the real values, so -0.0 equals +0.0; any
comparison with NaN is false; an infinity lies beyond every finite value and equals itself. -/
def Obligations.ComparisonsFollowTheRealValues : Prop :=
  (∀ (f : FloatFmt) (x y : F64), Float64.isFinite f x = true → Float64.isFinite f y = true →
    (Float64.gt f x y = true ↔ Float64.real f y < Float64.real f x) ∧
    (Float64.ge f x y = true ↔ Float64.real f y ≤ Float64.real f x) ∧
    (Float64.le f x y = true ↔ Float64.real f x ≤ Float64.real f y) ∧
    (Float64.eq f x y = true ↔ Float64.real f x = Float64.real f y)) ∧
  (∀ (f : FloatFmt) (x y : F64), Float64.isNaN f x = true ∨ Float64.isNaN f y = true →
    Float64.gt f x y = false ∧ Float64.ge f x y = false ∧ Float64.le f x y = false ∧
    Float64.eq f x y = false) ∧
  (∀ f : FloatFmt, Float64.eq f (Float64.zero f true) posZero = true) ∧
  (∀ (f : FloatFmt) (x : F64), Float64.isFinite f x = true →
    Float64.gt f (Float64.infinity f false) x = true ∧
    Float64.gt f x (Float64.infinity f true) = true ∧
    Float64.gt f x (Float64.infinity f false) = false ∧
    Float64.gt f (Float64.infinity f true) x = false ∧
    Float64.eq f x (Float64.infinity f false) = false ∧
    Float64.eq f x (Float64.infinity f true) = false) ∧
  ∀ f : FloatFmt, Float64.gt f (Float64.infinity f false) (Float64.infinity f true) = true ∧
    Float64.gt f (Float64.infinity f true) (Float64.infinity f false) = false ∧
    ∀ neg : Bool, Float64.eq f (Float64.infinity f neg) (Float64.infinity f neg) = true

/-! ### PulseGenerator -/

/-- R120, R205: START, the word 0x0100 of HOST. It is refused while RUNNING; a period that is not
finite and positive gives InvalidInput and writes nothing; without a pin writer it writes PERIOD,
STOP_REQ, PIN_BIND and GEN_STATE and gives HardwareUnavailable; otherwise it binds the writer and the
loop runs. -/
def Obligations.StartContract : Prop :=
  IssuedAs .start 0x0100 [.host] ∧
  ∀ s : State, s.bus.issuer = .host →
    let o := s.bus.operands
    let admitted := Float64.isFinite s.fmt o.periodIn && Float64.gt s.fmt o.periodIn posZero
    (s.genState = .running → exec .start s = .next { s with refused := true }) ∧
    (s.genState ≠ .running → admitted = false → exec .start s = .next { s with
      res := { status := some .invalidInput }
      trace := s.trace ++ [.cmd .host .start [.f64 o.periodIn, .pin o.pinIn]
        { status := some .invalidInput } (some (.f64 o.periodIn))] }) ∧
    (s.genState ≠ .running → admitted = true → o.pinIn = none → exec .start s = .next { s with
      period := o.periodIn
      stopReq := false
      pinBind := none
      genState := .degraded
      res := { status := some .hardwareUnavailable }
      trace := s.trace ++ [.cmd .host .start [.f64 o.periodIn, .pin none]
        { status := some .hardwareUnavailable } none] }) ∧
    (∀ h : PinHandle, s.genState ≠ .running → admitted = true → o.pinIn = some h →
      exec .start s = .next { s with
        period := o.periodIn
        stopReq := false
        pinBind := some h
        seqPh := .cycStart
        genState := .running
        res := { status := some .ok }
        trace := s.trace ++ [.cmd .host .start [.f64 o.periodIn, .pin (some h)]
          { status := some .ok } none] })

/-- R122, R123: STOP, the word 0x0200 of HOST, sets STOP_REQ while RUNNING and writes nothing
otherwise; it returns OK. -/
def Obligations.StopContract : Prop :=
  IssuedAs .stop 0x0200 [.host] ∧
  ∀ s : State, s.bus.issuer = .host →
    (s.genState = .running → exec .stop s = .next { s with
      stopReq := true
      res := { status := some .ok }
      trace := s.trace ++ [.cmd .host .stop [] { status := some .ok } none] }) ∧
    (s.genState ≠ .running → exec .stop s = .next { s with
      res := { status := some .ok }
      trace := s.trace ++ [.cmd .host .stop [] { status := some .ok } none] })

/-- R124: SET_ON_WIDTH, the word 0x0300 of HOST and EDGE, stores the value it is given, unclamped, in
every GEN_STATE. -/
def Obligations.SetOnWidthStoresUnclamped : Prop :=
  IssuedAs .setOnWidth 0x0300 [.host, .edge] ∧
  ∀ s : State, s.bus.issuer ≠ .seq → exec .setOnWidth s = .next { s with
    onWidth := s.bus.operands.widthIn
    res := { status := some .ok }
    trace := s.trace ++ [.cmd s.bus.issuer .setOnWidth [.f64 s.bus.operands.widthIn]
      { status := some .ok } none] }

/-- R130: the CYC_START step stops the loop when STOP_REQ is set, and otherwise takes the snapshot; the
HIGH phase is entered unless the snapshot equals 0.0. -/
def Obligations.CycStartStopsOrSnapshots : Prop :=
  ∀ s : State, s.genState = .running → s.seqPh = .cycStart →
    (s.stopReq = true → exec .runCycle s = .next { s with
      stopReq := false, genState := .stopped, trace := s.trace ++ [.stopped] }) ∧
    (s.stopReq = false →
      let w := clamp s.fmt s.onWidth s.period
      (Float64.eq s.fmt w posZero = false → exec .runCycle s = .next { s with
        wSnap := w, trace := s.trace ++ [.snap w], seqPh := .hiWrite }) ∧
      (Float64.eq s.fmt w posZero = true → exec .runCycle s = .next { s with
        wSnap := w, trace := s.trace ++ [.snap w], seqPh := .loWrite }))

/-- R131: clamp gives P above P, the value itself from 0.0 to P, and +0.0 for negative values and NaN;
the result lies in [0.0, P] and is a zero exactly for a zero, a negative value or NaN. -/
def Obligations.ClampStaysInRange : Prop :=
  ∀ (f : FloatFmt) (v p : F64), Float64.isFinite f p = true → Float64.gt f p posZero = true →
    (Float64.gt f v p = true → clamp f v p = p) ∧
    (Float64.gt f v p = false → Float64.ge f v posZero = true → clamp f v p = v) ∧
    (Float64.gt f posZero v = true ∨ Float64.isNaN f v = true → clamp f v p = posZero) ∧
    Float64.ge f (clamp f v p) posZero = true ∧ Float64.le f (clamp f v p) p = true ∧
    (Float64.eq f (clamp f v p) posZero = true ↔
      Float64.eq f v posZero = true ∨ Float64.gt f posZero v = true ∨ Float64.isNaN f v = true)

/-- R127, R132, R135: the HI_WRITE and LO_WRITE steps write the pin once, record PINENV's answer with the
tick, change PIN_LEVEL only on OK, and go to the same next phase for every answer. -/
def Obligations.PinWritePhases : Prop :=
  ∀ (s : State) (h : PinHandle), s.genState = .running → s.pinBind = some h →
    (s.seqPh = .hiWrite → exec .runCycle s = .next { s with
      pinLevel := if s.bus.pinAnswer = .ok then .high else s.pinLevel
      trace := s.trace ++ [.pin s.t .high s.bus.pinAnswer]
      seqPh := .hiWaitEnter }) ∧
    (s.seqPh = .loWrite → exec .runCycle s = .next { s with
      pinLevel := if s.bus.pinAnswer = .ok then .low else s.pinLevel
      trace := s.trace ++ [.pin s.t .low s.bus.pinAnswer]
      seqPh := .loWaitEnter })

/-- R133, R136: the wait-entry phases. HI_WAIT_ENTER with W_SNAP `> 0.0` enters the wait of W_SNAP;
LO_WAIT_ENTER enters the wait of PERIOD - W_SNAP when that is `> 0.0`, and otherwise closes the cycle with
no clock read. That an entry clears the wrap mark is the model's choice (log entry 9), as is what
HI_WAIT_ENTER does with W_SNAP not `> 0.0`, which R133 rules out (log entry 17). -/
def Obligations.WaitEnterPhases : Prop :=
  ∀ s : State, s.genState = .running →
    let d := Float64.sub s.fmt s.period s.wSnap
    (s.seqPh = .hiWaitEnter → Float64.gt s.fmt s.wSnap posZero = false →
      exec .runCycle s = .next { s with seqPh := .loWrite }) ∧
    (s.seqPh = .hiWaitEnter → Float64.gt s.fmt s.wSnap posZero = true →
      exec .runCycle s = .next { s with
        waitDur := s.wSnap
        waitT0 := s.t
        waitDelta := waitTicks s.cfg s.wSnap
        wrapped := false
        trace := s.trace ++ [.read s.t]
        seqPh := .hiPoll }) ∧
    (s.seqPh = .loWaitEnter → Float64.gt s.fmt d posZero = true →
      exec .runCycle s = .next { s with
        waitDur := d
        waitT0 := s.t
        waitDelta := waitTicks s.cfg d
        wrapped := false
        trace := s.trace ++ [.read s.t]
        seqPh := .loPoll }) ∧
    (s.seqPh = .loWaitEnter → Float64.gt s.fmt d posZero = false →
      exec .runCycle s = .next { s with seqPh := .cycStart })

/-- R134, R137: the poll phases read the clock; HI_POLL goes to LO_WRITE and LO_POLL to CYC_START when
the wait has ended, and stay where they are otherwise. -/
def Obligations.PollPhases : Prop :=
  ∀ s : State, s.genState = .running → s.wrapped = false →
    let ended := Float64.natGe s.fmt (s.t - s.waitT0) s.waitDelta
    (s.seqPh = .hiPoll → ended = true → exec .runCycle s = .next { s with
      trace := s.trace ++ [.read s.t], seqPh := .loWrite }) ∧
    (s.seqPh = .loPoll → ended = true → exec .runCycle s = .next { s with
      trace := s.trace ++ [.read s.t], seqPh := .cycStart }) ∧
    (s.seqPh.polls = true → ended = false → exec .runCycle s = .next { s with
      trace := s.trace ++ [.read s.t] })

/-- R136: for `0.0 <= W_SNAP <= PERIOD` the difference PERIOD - W_SNAP lies in [0.0, PERIOD], is never
NaN, and is +0.0 exactly when W_SNAP equals PERIOD. -/
def Obligations.LowWaitDifferenceStaysInRange : Prop :=
  ∀ (f : FloatFmt) (p w : F64), Float64.isFinite f p = true →
    Float64.ge f w posZero = true → Float64.le f w p = true →
    Float64.isNaN f (Float64.sub f p w) = false ∧
    Float64.ge f (Float64.sub f p w) posZero = true ∧
    Float64.le f (Float64.sub f p w) p = true ∧
    (Float64.gt f p posZero = true → (Float64.sub f p w = posZero ↔ Float64.eq f w p = true))

/-- R142: PINENV's answer changes neither the next phase nor any register of the block nor the timing:
two answers lead to states that agree in all but PIN_LEVEL, the trace, and the answer port itself. -/
def Obligations.PinAnswerChangesOnlyThePin : Prop :=
  ∀ (s u v : State) (a b : PinResult),
    exec .runCycle { s with bus := { s.bus with pinAnswer := a } } = .next u →
    exec .runCycle { s with bus := { s.bus with pinAnswer := b } } = .next v →
    { v with pinLevel := u.pinLevel, trace := u.trace, bus := u.bus } = u

/-- R23: the only transitions of GEN_STATE are IDLE, STOPPED or DEGRADED to RUNNING or DEGRADED by START,
and RUNNING to STOPPED by SEQ at a cycle start with STOP_REQ = 1. -/
def Obligations.GenStateTransitions : Prop :=
  ∀ s u : State, step s = .next u → u.genState ≠ s.genState →
    ∃ c : Command, s.takeMove.1 = .issue c ∧
      ((s.genState ≠ .running ∧ (u.genState = .running ∨ u.genState = .degraded) ∧
          c.issuer = .host ∧ c.word = 0x0100) ∨
        (s.genState = .running ∧ u.genState = .stopped ∧ c.issuer = .seq ∧
          s.seqPh = .cycStart ∧ s.stopReq = true))

/-- R21, R61: ON_WIDTH is written by SET_ON_WIDTH, FWD_EDGE and BWD_EDGE of HOST or EDGE only, each
writing the value it is given. -/
def Obligations.OnWidthWriters : Prop :=
  ∀ s u : State, step s = .next u → u.onWidth ≠ s.onWidth →
    ∃ c : Command, s.takeMove.1 = .issue c ∧ (c.issuer = .host ∨ c.issuer = .edge) ∧
      ((c.word = 0x0300 ∧ u.onWidth = c.operands.widthIn) ∨
        (c.word = 0x0801 ∧ u.onWidth = s.cfg.fwdWidth) ∨
        (c.word = 0x0901 ∧ u.onWidth = s.cfg.bwdWidth) ∨
        ((c.word = 0x0800 ∨ c.word = 0x0900) ∧ u.onWidth = posZero))

/-- R22: only START writes PERIOD, only with a finite positive value, and never while RUNNING. -/
def Obligations.PeriodIsWrittenByStartOnly : Prop :=
  ∀ s u : State, step s = .next u → u.period ≠ s.period →
    s.genState ≠ .running ∧ ∃ c : Command, s.takeMove.1 = .issue c ∧ c.issuer = .host ∧
      c.word = 0x0100 ∧ u.period = c.operands.periodIn ∧
      Float64.isFinite s.fmt u.period = true ∧ Float64.gt s.fmt u.period posZero = true

/-- R30: no step writes a construction constant. -/
def Obligations.ConstantsNeverChange : Prop :=
  ∀ s u : State, step s = .next u → u.cfg = s.cfg

/-- R29: only CLK changes T, by one tick, and T never decreases, with the counter that does not wrap. -/
def Obligations.OnlyTheClockChangesTheTick : Prop :=
  ∀ s u : State, s.cfg.tickBits = none → step s = .next u →
    s.t ≤ u.t ∧ (u.t ≠ s.t → s.takeMove.1 = .clk ∧ u.t = s.t + 1)

/-- R31, R142: PIN_LEVEL changes only in a pin write that PINENV answers with OK, to the level written.
-/
def Obligations.PinLevelChangesOnlyByASuccessfulWrite : Prop :=
  ∀ s u : State, step s = .next u → u.pinLevel ≠ s.pinLevel →
    s.genState = .running ∧ ∃ c : Command, s.takeMove.1 = .issue c ∧ c.issuer = .seq ∧
      c.pinAnswer = .ok ∧
      ((s.seqPh = .hiWrite ∧ u.pinLevel = .high) ∨ (s.seqPh = .loWrite ∧ u.pinLevel = .low))

/-- R14: events are only ever added at the end of the trace. -/
def Obligations.TraceOnlyGrows : Prop :=
  ∀ s u : State, step s = .next u → ∃ l : List Event, u.trace = s.trace ++ l

/-- R26, R122, R144: between one CYC_START step and the next, a phase step depends neither on ON_WIDTH
nor on STOP_REQ: a setpoint write or a STOP in the middle of a cycle changes nothing before the next
CYC_START. -/
def Obligations.MidCycleStepsIgnoreSetpointAndStop : Prop :=
  ∀ (s u : State) (w : F64) (b : Bool), s.seqPh ≠ .cycStart → exec .runCycle s = .next u →
    exec .runCycle { s with onWidth := w, stopReq := b } =
      .next { u with onWidth := w, stopReq := b }

/-! ### Invariants of every step -/

/-- The register invariant (a writer is bound while RUNNING, R120; a stop request stands only while
RUNNING, R24; PERIOD is finite and positive, R22; W_SNAP in range, R131, R133; the wait in progress is
the one its phase entered, R105, R133, R136; its entry read is not in the future, R106) is kept by
every step. That a WAIT_FOR operation is tracked by a bit of its own is the model's choice (log entry
10). -/
def Obligations.EveryStepKeepsTheRegisterInvariant : Prop :=
  ∀ s u : State, s.Inv → step s = .next u → u.Inv

/-- Under the register invariant no step of any agent stops the machine with a fault or a refusal: the loop
ends only by STOP or by a hang in a wait (R143), and a pin write finds its writer (R120, R127). The
model's choices in it: a refused word sets the mark and the run goes on (R204, log entry 13), the one
stop of the model is a pin write with no writer bound (log entry 12), and operand ports that cannot stand
with an operation are no step (log entry 8). -/
def Obligations.NoStepStopsTheMachine : Prop :=
  ∀ s : State, s.Inv → ∃ u : State, step s = .next u

/-- R101, R128: the ticks of clock reads and pin writes never decrease along the trace, and none is after
the current tick; every step keeps this, with the counter that does not wrap. -/
def Obligations.EveryStepKeepsTheTicksOrdered : Prop :=
  ∀ s u : State, s.cfg.tickBits = none → s.ticksOrdered → step s = .next u → u.ticksOrdered

/-- R125, R138, R139, R140, R145: every step keeps the trace a pulse train: each cycle is a snapshot, a
HIGH write unless the snapshot is zero, and a LOW write; each pin write comes no earlier than the lower
bound `need` of the wait before it; the loop stops only between cycles. -/
def Obligations.EveryStepKeepsThePulseTrain : Prop :=
  ∀ s u : State, s.cfg.tickBits = none → s.Inv → s.trainHolds → step s = .next u → u.trainHolds

/-- The three invariants hold right after reset, for all admitted parameters and every draw of T and of
the WAIT registers (R230). -/
def Obligations.ResetMeetsTheInvariants : Prop :=
  ∀ (p : Params) (tick t0 : Nat) (dur delta : F64), Admitted p →
    (State.resetWith p tick dur t0 delta).Inv ∧
    (State.resetWith p tick dur t0 delta).ticksOrdered ∧
    (State.resetWith p tick dur t0 delta).trainHolds

/-- R100, R213: neither CLK nor SEQ is left out for ever. From every state of the invariant, whatever the
free moves are, the run reaches a state whose tick is later, and a state in which SEQ has the turn. -/
def Obligations.ClockAndSequencerAreNeverStarved : Prop :=
  ∀ s : State, s.Inv → s.cfg.tickBits = none →
    (∃ (k : Nat) (u : State), Host.Core.run Sys2Proof.core k s = .next u ∧ s.t < u.t) ∧
    (∃ (k : Nat) (u : State) (c : Command), Host.Core.run Sys2Proof.core k s = .next u ∧
      u.takeMove.1 = .issue c ∧ c.issuer = .seq)

/-- R23, R25, R168, R200: the numeric codes of GEN_STATE, SEQ_PH, RES_UNIT and STATUS. No code outside the
tables exists: SEQ_PH never holds 7, and STATUS and RES_UNIT never carry 4 to 255. -/
def Obligations.NumericCodes : Prop :=
  (GenState.idle.code = 0 ∧ GenState.running.code = 1 ∧ GenState.stopped.code = 2 ∧
    GenState.degraded.code = 3) ∧
  (SeqPhase.cycStart.code = 0 ∧ SeqPhase.hiWrite.code = 1 ∧ SeqPhase.hiWaitEnter.code = 2 ∧
    SeqPhase.hiPoll.code = 3 ∧ SeqPhase.loWrite.code = 4 ∧ SeqPhase.loWaitEnter.code = 5 ∧
    SeqPhase.loPoll.code = 6) ∧
  (Status.ok.code = 0 ∧ Status.hardwareUnavailable.code = 1 ∧ Status.invalidInput.code = 2 ∧
    Status.writeFailure.code = 3) ∧
  (UnitCode.celsius.code = 0 ∧ UnitCode.relativeHumidityPercent.code = 1 ∧
    UnitCode.volt.code = 2 ∧ UnitCode.adcCount.code = 3) ∧
  (∀ p : SeqPhase, p.code ≠ 7) ∧ (∀ e : Status, e.code.toNat < 4) ∧
  ∀ c : UnitCode, c.code.toNat < 4

/-- R230, R231: what reset leaves in the registers, whatever T and the WAIT registers draw; the trace is
empty and REFUSED is clear. -/
def Obligations.ResetValues : Prop :=
  ∀ (p : Params) (tick t0 : Nat) (dur delta : F64),
    let s := State.resetWith p tick dur t0 delta
    s.onWidth = 0 ∧ s.period = p.periodDefault ∧ s.genState.code = 0 ∧ s.stopReq = false ∧
    s.seqPh.code = 0 ∧ s.wSnap = 0 ∧ s.pinBind = none ∧ s.t = tick ∧ s.waitDur = dur ∧
    s.waitT0 = t0 ∧ s.waitDelta = delta ∧ s.pinLevel = .unknown ∧ s.trace = [] ∧
    s.refused = false ∧ s.cfg = p

/-! ### DirectionInputLatch -/

/-- R150, R151: the edge operations are the words 0x0800 and 0x0900 with the A bit, of EDGE and HOST. An
active edge writes the button's width to ON_WIDTH, an inactive edge writes +0.0, in every GEN_STATE. -/
def Obligations.EdgesWriteTheSetpoint : Prop :=
  IssuedAs (.fwdEdge false) 0x0800 [.edge, .host] ∧ IssuedAs (.fwdEdge true) 0x0801 [.edge, .host] ∧
  IssuedAs (.bwdEdge false) 0x0900 [.edge, .host] ∧ IssuedAs (.bwdEdge true) 0x0901 [.edge, .host] ∧
  ∀ s : State, s.bus.issuer ≠ .seq →
    let done (i : Instr) (w : F64) : State := { s with
      onWidth := w
      res := { status := some .ok }
      trace := s.trace ++ [.cmd s.bus.issuer i [] { status := some .ok } none] }
    exec (.fwdEdge true) s = .next (done (.fwdEdge true) s.cfg.fwdWidth) ∧
    exec (.fwdEdge false) s = .next (done (.fwdEdge false) 0) ∧
    exec (.bwdEdge true) s = .next (done (.bwdEdge true) s.cfg.bwdWidth) ∧
    exec (.bwdEdge false) s = .next (done (.bwdEdge false) 0)

/-- R152: after any sequence of edge and SET_ON_WIDTH operations, ON_WIDTH is the value the last of them
wrote, whatever it held before and whatever came earlier. -/
def Obligations.LastSetpointWriterWins : Prop :=
  ∀ (s : State) (ops : List (Instr × Command)) (i : Instr) (c : Command) (w : F64),
    (∀ q ∈ ops, (setpointOf s.cfg q.2.operands q.1).isSome = true) →
    setpointOf s.cfg c.operands i = some w →
    ∃ u : State, execAll (ops ++ [(i, c)]) s = .next u ∧ u.onWidth = w

/-! ### SensorCodec -/

/-- R52, R161: DECODE_HUMIDITY of `[b0, b1]` returns `(-6.0) ⊕ (125.0 ⊗ (raw16 ⊘ 65536.0))` with unit
1. -/
def Obligations.HumidityContract : Prop :=
  ∀ (s : State) (b0 b1 : Byte), s.bus.issuer = .host → s.bus.operands.bufIn = [b0, b1] →
    s.bus.operands.lenIn = 2 →
    let f := s.fmt
    let ratio := Float64.div f (Float64.ofNat f (b0.toNat * 256 + b1.toNat))
      (Float64.literal f false 65536 1)
    let r : ResultPorts :=
      { status := some .ok
        f64 := some (Float64.add f (Float64.literal f true 6 1)
          (Float64.mul f (Float64.literal f false 125 1) ratio))
        unit := some .relativeHumidityPercent }
    exec .decodeHumidity s = .next { s with
      res := r
      trace := s.trace ++ [.cmd .host .decodeHumidity [.bytes [b0, b1], .len 2] r none] }

/-- R171: the humidity is exact, equal to the real number `-6 + 125 · raw16 / 65536`, for every sample
and in both formats. -/
def Obligations.HumidityIsExact : Prop :=
  ∀ (f : FloatFmt) (raw : BitVec 16),
    Float64.isFinite f (humidity f raw) = true ∧
    Float64.real f (humidity f raw) = -6 + 125 * (raw.toNat : Rat) / 65536

/-- R52, R162: DECODE_TEMPERATURE_C of `[b0, b1]` returns `(-46.85) ⊕ (175.72 ⊗ (raw16 ⊘ 65536.0))`, two
roundings, with unit 0. -/
def Obligations.TemperatureContract : Prop :=
  ∀ (s : State) (b0 b1 : Byte), s.bus.issuer = .host → s.bus.operands.bufIn = [b0, b1] →
    s.bus.operands.lenIn = 2 →
    let f := s.fmt
    let ratio := Float64.div f (Float64.ofNat f (b0.toNat * 256 + b1.toNat))
      (Float64.literal f false 65536 1)
    let r : ResultPorts :=
      { status := some .ok
        f64 := some (Float64.add f (Float64.literal f true 4685 100)
          (Float64.mul f (Float64.literal f false 17572 100) ratio))
        unit := some .celsius }
    exec .decodeTemperatureC s = .next { s with
      res := r
      trace := s.trace ++ [.cmd .host .decodeTemperatureC [.bytes [b0, b1], .len 2] r none] }

/-- R54, R163, R164: the ADC decoders return the low 4 or the low 2 bits of byte 1 above byte 2, with
unit 3. -/
def Obligations.AdcContract : Prop :=
  ∀ (s : State) (b0 b1 b2 : Byte), s.bus.issuer = .host →
    s.bus.operands.bufIn = [b0, b1, b2] → s.bus.operands.lenIn = 3 →
    let r (bits : Nat) : ResultPorts :=
      { status := some .ok
        int := some (BitVec.ofNat 16 (b1.toNat % 2 ^ bits * 256 + b2.toNat))
        unit := some .adcCount }
    exec .decodeAdc12 s = .next { s with
      res := r 4
      trace := s.trace ++ [.cmd .host .decodeAdc12 [.bytes [b0, b1, b2], .len 3] (r 4) none] } ∧
    exec .decodeAdc10 s = .next { s with
      res := r 2
      trace := s.trace ++ [.cmd .host .decodeAdc10 [.bytes [b0, b1, b2], .len 3] (r 2) none] }

/-- R165: ENCODE_PIXEL_FRAME of at most MAX_PIXELS pixels returns 4 zero bytes, a record
`[0xFF, b >> 1, g >> 1, r >> 1]` for each pixel in order, and `ceil((n + 14) / 16)` zero bytes. -/
def Obligations.PixelFrameContract : Prop :=
  ∀ (s : State) (px : List Pixel), s.bus.issuer = .host →
    s.bus.operands.bufIn = pixelBytes px → s.bus.operands.lenIn = 3 * px.length →
    px.length ≤ s.cfg.maxPixels →
    let r : ResultPorts :=
      { status := some .ok
        bytes := some (([0, 0, 0, 0] : List Byte) ++
          px.flatMap (fun q =>
            [(0xFF : Byte), BitVec.ofNat 8 (q.b.toNat / 2), BitVec.ofNat 8 (q.g.toNat / 2),
              BitVec.ofNat 8 (q.r.toNat / 2)]) ++
          List.replicate ((px.length + 29) / 16) 0) }
    exec .encodePixelFrame s = .next { s with
      res := r
      trace := s.trace ++ [.cmd .host .encodePixelFrame
        [.bytes (pixelBytes px), .len (3 * px.length)] r none] }

/-- R165, R166: the frame of n pixels is `4 + 4n + e` bytes, where the end marker e is 1 for n up to 2,
2 for n from 3 to 18, 3 for n from 19 to 34, and in general k + 1 for n from 16k - 13 to 16k + 2. The
last line of R166 gives k for that range, against its own lines before it; the formula of R165 decides
(log entry 11). -/
def Obligations.PixelFrameLength : Prop :=
  ∀ px : List Pixel,
    let n := px.length
    (pixelFrame n (pixelBytes px)).length = 4 + 4 * n + (n + 29) / 16 ∧
    (n ≤ 2 → (pixelFrame n (pixelBytes px)).length = 4 + 4 * n + 1) ∧
    (3 ≤ n → n ≤ 18 → (pixelFrame n (pixelBytes px)).length = 4 + 4 * n + 2) ∧
    (19 ≤ n → n ≤ 34 → (pixelFrame n (pixelBytes px)).length = 4 + 4 * n + 3) ∧
    ∀ k, 1 ≤ k → 16 * k ≤ n + 13 → n ≤ 16 * k + 2 →
      (pixelFrame n (pixelBytes px)).length = 4 + 4 * n + (k + 1)

/-- R160, R202: a codec operation whose buffer does not have its length returns InvalidInput with the
length as the offending value, and drives no other result port. -/
def Obligations.WrongBufferLengthIsInvalidInput : Prop :=
  ∀ (s : State) (i : Instr), s.bus.issuer = .host →
    let len := s.bus.operands.lenIn
    ((i = .decodeHumidity ∨ i = .decodeTemperatureC) ∧ len ≠ 2) ∨
      ((i = .decodeAdc12 ∨ i = .decodeAdc10) ∧ len ≠ 3) ∨
      (i = .encodePixelFrame ∧ (len % 3 ≠ 0 ∨ s.cfg.maxPixels < len / 3)) →
    exec i s = .next { s with
      res := { status := some .invalidInput }
      trace := s.trace ++ [.cmd .host i [.bytes s.bus.operands.bufIn, .len len]
        { status := some .invalidInput } (some (.len len))] }

/-- R36, R170: a codec operation writes no register, and its result depends on its operand buffer and the
constants alone. -/
def Obligations.CodecIsStateless : Prop :=
  ∀ (s v : State) (i : Instr), i.readsBuffer = true → v.cfg = s.cfg → v.bus = s.bus →
    ∃ s' v' : State, exec i s = .next s' ∧ exec i v = .next v' ∧ s'.res = v'.res ∧
      SameRegisters s s' ∧ s'.refused = s.refused
end

