-- ==== Sys2Proof/Laws/Decode.lean ====
section
/-! SUPPORT. What the decoder's answer says. -/

namespace Sys2Proof

/-- A word that decodes for an issuer decodes, and the issuer is one the table allows. -/
theorem decodeFor_ok {a : Issuer} {w : CmdWord} {i : Instr} (h : decodeFor a w = .ok i) :
    decode w = .ok i ∧ i.allowsIssuer a = true := by
  unfold decodeFor at h
  split at h
  · cases h
  · rename_i j hj
    split at h
    · cases h
      exact ⟨hj, ‹_›⟩
    · cases h

/-- A word that decodes is the word of the operation it decodes to. -/
theorem decode_fields {w : CmdWord} {i : Instr} (h : decode w = .ok i) :
    opcodeInstr (opcField w) (aField w) = some i ∧ rsvField w = 0 ∧
      (aField w = true → i.hasActiveBit = true) := by
  unfold decode at h
  split at h
  · cases h
  · rename_i j hj
    split at h
    · cases h
    · split at h
      · cases h
      · cases h
        refine ⟨hj, by simpa using ‹¬ rsvField w ≠ 0›, fun ha => ?_⟩
        rename_i hb
        simpa [ha] using hb

end Sys2Proof
end

