-- ==== Sys2Proof/Laws/State.lean ====
section
/-! SUPPORT. The fields of a state after each update: one lemma per field per update, so that no proof
unfolds a record update. -/

namespace Sys2Proof.Machine

/-! ### present -/

@[simp] theorem State.present_cfg (s : State) (c : Command) : (s.present c).cfg = s.cfg := rfl
@[simp] theorem State.present_onWidth (s : State) (c : Command) : (s.present c).onWidth = s.onWidth := rfl
@[simp] theorem State.present_period (s : State) (c : Command) : (s.present c).period = s.period := rfl
@[simp] theorem State.present_genState (s : State) (c : Command) : (s.present c).genState = s.genState := rfl
@[simp] theorem State.present_stopReq (s : State) (c : Command) : (s.present c).stopReq = s.stopReq := rfl
@[simp] theorem State.present_seqPh (s : State) (c : Command) : (s.present c).seqPh = s.seqPh := rfl
@[simp] theorem State.present_wSnap (s : State) (c : Command) : (s.present c).wSnap = s.wSnap := rfl
@[simp] theorem State.present_waitDur (s : State) (c : Command) : (s.present c).waitDur = s.waitDur := rfl
@[simp] theorem State.present_waitT0 (s : State) (c : Command) : (s.present c).waitT0 = s.waitT0 := rfl
@[simp] theorem State.present_waitDelta (s : State) (c : Command) : (s.present c).waitDelta = s.waitDelta := rfl
@[simp] theorem State.present_pinBind (s : State) (c : Command) : (s.present c).pinBind = s.pinBind := rfl
@[simp] theorem State.present_t (s : State) (c : Command) : (s.present c).t = s.t := rfl
@[simp] theorem State.present_pinLevel (s : State) (c : Command) : (s.present c).pinLevel = s.pinLevel := rfl
@[simp] theorem State.present_res (s : State) (c : Command) : (s.present c).res = s.res := rfl
@[simp] theorem State.present_trace (s : State) (c : Command) : (s.present c).trace = s.trace := rfl
@[simp] theorem State.present_refused (s : State) (c : Command) : (s.present c).refused = s.refused := rfl
@[simp] theorem State.present_waitOp (s : State) (c : Command) : (s.present c).waitOp = s.waitOp := rfl
@[simp] theorem State.present_wrapped (s : State) (c : Command) : (s.present c).wrapped = s.wrapped := rfl
@[simp] theorem State.present_bus (s : State) (c : Command) : (s.present c).bus = c := rfl
@[simp] theorem State.present_agenda (s : State) (c : Command) : (s.present c).agenda = s.agenda := rfl
@[simp] theorem State.present_turn (s : State) (c : Command) : (s.present c).turn = s.turn := rfl

/-! ### record -/

@[simp] theorem State.record_cfg (s : State) (e : Event) : (s.record e).cfg = s.cfg := rfl
@[simp] theorem State.record_onWidth (s : State) (e : Event) : (s.record e).onWidth = s.onWidth := rfl
@[simp] theorem State.record_period (s : State) (e : Event) : (s.record e).period = s.period := rfl
@[simp] theorem State.record_genState (s : State) (e : Event) : (s.record e).genState = s.genState := rfl
@[simp] theorem State.record_stopReq (s : State) (e : Event) : (s.record e).stopReq = s.stopReq := rfl
@[simp] theorem State.record_seqPh (s : State) (e : Event) : (s.record e).seqPh = s.seqPh := rfl
@[simp] theorem State.record_wSnap (s : State) (e : Event) : (s.record e).wSnap = s.wSnap := rfl
@[simp] theorem State.record_waitDur (s : State) (e : Event) : (s.record e).waitDur = s.waitDur := rfl
@[simp] theorem State.record_waitT0 (s : State) (e : Event) : (s.record e).waitT0 = s.waitT0 := rfl
@[simp] theorem State.record_waitDelta (s : State) (e : Event) : (s.record e).waitDelta = s.waitDelta := rfl
@[simp] theorem State.record_pinBind (s : State) (e : Event) : (s.record e).pinBind = s.pinBind := rfl
@[simp] theorem State.record_t (s : State) (e : Event) : (s.record e).t = s.t := rfl
@[simp] theorem State.record_pinLevel (s : State) (e : Event) : (s.record e).pinLevel = s.pinLevel := rfl
@[simp] theorem State.record_res (s : State) (e : Event) : (s.record e).res = s.res := rfl
@[simp] theorem State.record_trace (s : State) (e : Event) : (s.record e).trace = s.trace ++ [e] := rfl
@[simp] theorem State.record_refused (s : State) (e : Event) : (s.record e).refused = s.refused := rfl
@[simp] theorem State.record_waitOp (s : State) (e : Event) : (s.record e).waitOp = s.waitOp := rfl
@[simp] theorem State.record_wrapped (s : State) (e : Event) : (s.record e).wrapped = s.wrapped := rfl
@[simp] theorem State.record_bus (s : State) (e : Event) : (s.record e).bus = s.bus := rfl
@[simp] theorem State.record_agenda (s : State) (e : Event) : (s.record e).agenda = s.agenda := rfl
@[simp] theorem State.record_turn (s : State) (e : Event) : (s.record e).turn = s.turn := rfl

/-! ### refuse -/

@[simp] theorem State.refuse_cfg (s : State) : (s.refuse).cfg = s.cfg := rfl
@[simp] theorem State.refuse_onWidth (s : State) : (s.refuse).onWidth = s.onWidth := rfl
@[simp] theorem State.refuse_period (s : State) : (s.refuse).period = s.period := rfl
@[simp] theorem State.refuse_genState (s : State) : (s.refuse).genState = s.genState := rfl
@[simp] theorem State.refuse_stopReq (s : State) : (s.refuse).stopReq = s.stopReq := rfl
@[simp] theorem State.refuse_seqPh (s : State) : (s.refuse).seqPh = s.seqPh := rfl
@[simp] theorem State.refuse_wSnap (s : State) : (s.refuse).wSnap = s.wSnap := rfl
@[simp] theorem State.refuse_waitDur (s : State) : (s.refuse).waitDur = s.waitDur := rfl
@[simp] theorem State.refuse_waitT0 (s : State) : (s.refuse).waitT0 = s.waitT0 := rfl
@[simp] theorem State.refuse_waitDelta (s : State) : (s.refuse).waitDelta = s.waitDelta := rfl
@[simp] theorem State.refuse_pinBind (s : State) : (s.refuse).pinBind = s.pinBind := rfl
@[simp] theorem State.refuse_t (s : State) : (s.refuse).t = s.t := rfl
@[simp] theorem State.refuse_pinLevel (s : State) : (s.refuse).pinLevel = s.pinLevel := rfl
@[simp] theorem State.refuse_res (s : State) : (s.refuse).res = s.res := rfl
@[simp] theorem State.refuse_trace (s : State) : (s.refuse).trace = s.trace := rfl
@[simp] theorem State.refuse_refused (s : State) : (s.refuse).refused = true := rfl
@[simp] theorem State.refuse_waitOp (s : State) : (s.refuse).waitOp = s.waitOp := rfl
@[simp] theorem State.refuse_wrapped (s : State) : (s.refuse).wrapped = s.wrapped := rfl
@[simp] theorem State.refuse_bus (s : State) : (s.refuse).bus = s.bus := rfl
@[simp] theorem State.refuse_agenda (s : State) : (s.refuse).agenda = s.agenda := rfl
@[simp] theorem State.refuse_turn (s : State) : (s.refuse).turn = s.turn := rfl

/-! ### drive -/

@[simp] theorem State.drive_cfg (s : State) (r : ResultPorts) : (s.drive r).cfg = s.cfg := rfl
@[simp] theorem State.drive_onWidth (s : State) (r : ResultPorts) : (s.drive r).onWidth = s.onWidth := rfl
@[simp] theorem State.drive_period (s : State) (r : ResultPorts) : (s.drive r).period = s.period := rfl
@[simp] theorem State.drive_genState (s : State) (r : ResultPorts) : (s.drive r).genState = s.genState := rfl
@[simp] theorem State.drive_stopReq (s : State) (r : ResultPorts) : (s.drive r).stopReq = s.stopReq := rfl
@[simp] theorem State.drive_seqPh (s : State) (r : ResultPorts) : (s.drive r).seqPh = s.seqPh := rfl
@[simp] theorem State.drive_wSnap (s : State) (r : ResultPorts) : (s.drive r).wSnap = s.wSnap := rfl
@[simp] theorem State.drive_waitDur (s : State) (r : ResultPorts) : (s.drive r).waitDur = s.waitDur := rfl
@[simp] theorem State.drive_waitT0 (s : State) (r : ResultPorts) : (s.drive r).waitT0 = s.waitT0 := rfl
@[simp] theorem State.drive_waitDelta (s : State) (r : ResultPorts) : (s.drive r).waitDelta = s.waitDelta := rfl
@[simp] theorem State.drive_pinBind (s : State) (r : ResultPorts) : (s.drive r).pinBind = s.pinBind := rfl
@[simp] theorem State.drive_t (s : State) (r : ResultPorts) : (s.drive r).t = s.t := rfl
@[simp] theorem State.drive_pinLevel (s : State) (r : ResultPorts) : (s.drive r).pinLevel = s.pinLevel := rfl
@[simp] theorem State.drive_res (s : State) (r : ResultPorts) : (s.drive r).res = r := rfl
@[simp] theorem State.drive_trace (s : State) (r : ResultPorts) : (s.drive r).trace = s.trace := rfl
@[simp] theorem State.drive_refused (s : State) (r : ResultPorts) : (s.drive r).refused = s.refused := rfl
@[simp] theorem State.drive_waitOp (s : State) (r : ResultPorts) : (s.drive r).waitOp = s.waitOp := rfl
@[simp] theorem State.drive_wrapped (s : State) (r : ResultPorts) : (s.drive r).wrapped = s.wrapped := rfl
@[simp] theorem State.drive_bus (s : State) (r : ResultPorts) : (s.drive r).bus = s.bus := rfl
@[simp] theorem State.drive_agenda (s : State) (r : ResultPorts) : (s.drive r).agenda = s.agenda := rfl
@[simp] theorem State.drive_turn (s : State) (r : ResultPorts) : (s.drive r).turn = s.turn := rfl

/-! ### writeOnWidth -/

@[simp] theorem State.writeOnWidth_cfg (s : State) (w : F64) : (s.writeOnWidth w).cfg = s.cfg := rfl
@[simp] theorem State.writeOnWidth_onWidth (s : State) (w : F64) : (s.writeOnWidth w).onWidth = w := rfl
@[simp] theorem State.writeOnWidth_period (s : State) (w : F64) : (s.writeOnWidth w).period = s.period := rfl
@[simp] theorem State.writeOnWidth_genState (s : State) (w : F64) : (s.writeOnWidth w).genState = s.genState := rfl
@[simp] theorem State.writeOnWidth_stopReq (s : State) (w : F64) : (s.writeOnWidth w).stopReq = s.stopReq := rfl
@[simp] theorem State.writeOnWidth_seqPh (s : State) (w : F64) : (s.writeOnWidth w).seqPh = s.seqPh := rfl
@[simp] theorem State.writeOnWidth_wSnap (s : State) (w : F64) : (s.writeOnWidth w).wSnap = s.wSnap := rfl
@[simp] theorem State.writeOnWidth_waitDur (s : State) (w : F64) : (s.writeOnWidth w).waitDur = s.waitDur := rfl
@[simp] theorem State.writeOnWidth_waitT0 (s : State) (w : F64) : (s.writeOnWidth w).waitT0 = s.waitT0 := rfl
@[simp] theorem State.writeOnWidth_waitDelta (s : State) (w : F64) : (s.writeOnWidth w).waitDelta = s.waitDelta := rfl
@[simp] theorem State.writeOnWidth_pinBind (s : State) (w : F64) : (s.writeOnWidth w).pinBind = s.pinBind := rfl
@[simp] theorem State.writeOnWidth_t (s : State) (w : F64) : (s.writeOnWidth w).t = s.t := rfl
@[simp] theorem State.writeOnWidth_pinLevel (s : State) (w : F64) : (s.writeOnWidth w).pinLevel = s.pinLevel := rfl
@[simp] theorem State.writeOnWidth_res (s : State) (w : F64) : (s.writeOnWidth w).res = s.res := rfl
@[simp] theorem State.writeOnWidth_trace (s : State) (w : F64) : (s.writeOnWidth w).trace = s.trace := rfl
@[simp] theorem State.writeOnWidth_refused (s : State) (w : F64) : (s.writeOnWidth w).refused = s.refused := rfl
@[simp] theorem State.writeOnWidth_waitOp (s : State) (w : F64) : (s.writeOnWidth w).waitOp = s.waitOp := rfl
@[simp] theorem State.writeOnWidth_wrapped (s : State) (w : F64) : (s.writeOnWidth w).wrapped = s.wrapped := rfl
@[simp] theorem State.writeOnWidth_bus (s : State) (w : F64) : (s.writeOnWidth w).bus = s.bus := rfl
@[simp] theorem State.writeOnWidth_agenda (s : State) (w : F64) : (s.writeOnWidth w).agenda = s.agenda := rfl
@[simp] theorem State.writeOnWidth_turn (s : State) (w : F64) : (s.writeOnWidth w).turn = s.turn := rfl

/-! ### readClock -/

@[simp] theorem State.readClock_cfg (s : State) : (s.readClock).cfg = s.cfg := rfl
@[simp] theorem State.readClock_onWidth (s : State) : (s.readClock).onWidth = s.onWidth := rfl
@[simp] theorem State.readClock_period (s : State) : (s.readClock).period = s.period := rfl
@[simp] theorem State.readClock_genState (s : State) : (s.readClock).genState = s.genState := rfl
@[simp] theorem State.readClock_stopReq (s : State) : (s.readClock).stopReq = s.stopReq := rfl
@[simp] theorem State.readClock_seqPh (s : State) : (s.readClock).seqPh = s.seqPh := rfl
@[simp] theorem State.readClock_wSnap (s : State) : (s.readClock).wSnap = s.wSnap := rfl
@[simp] theorem State.readClock_waitDur (s : State) : (s.readClock).waitDur = s.waitDur := rfl
@[simp] theorem State.readClock_waitT0 (s : State) : (s.readClock).waitT0 = s.waitT0 := rfl
@[simp] theorem State.readClock_waitDelta (s : State) : (s.readClock).waitDelta = s.waitDelta := rfl
@[simp] theorem State.readClock_pinBind (s : State) : (s.readClock).pinBind = s.pinBind := rfl
@[simp] theorem State.readClock_t (s : State) : (s.readClock).t = s.t := rfl
@[simp] theorem State.readClock_pinLevel (s : State) : (s.readClock).pinLevel = s.pinLevel := rfl
@[simp] theorem State.readClock_res (s : State) : (s.readClock).res = s.res := rfl
@[simp] theorem State.readClock_trace (s : State) : (s.readClock).trace = s.trace ++ [.read s.t] := rfl
@[simp] theorem State.readClock_refused (s : State) : (s.readClock).refused = s.refused := rfl
@[simp] theorem State.readClock_waitOp (s : State) : (s.readClock).waitOp = s.waitOp := rfl
@[simp] theorem State.readClock_wrapped (s : State) : (s.readClock).wrapped = s.wrapped := rfl
@[simp] theorem State.readClock_bus (s : State) : (s.readClock).bus = s.bus := rfl
@[simp] theorem State.readClock_agenda (s : State) : (s.readClock).agenda = s.agenda := rfl
@[simp] theorem State.readClock_turn (s : State) : (s.readClock).turn = s.turn := rfl

/-! ### clockTick -/

@[simp] theorem State.clockTick_cfg (s : State) : (s.clockTick).cfg = s.cfg := rfl
@[simp] theorem State.clockTick_onWidth (s : State) : (s.clockTick).onWidth = s.onWidth := rfl
@[simp] theorem State.clockTick_period (s : State) : (s.clockTick).period = s.period := rfl
@[simp] theorem State.clockTick_genState (s : State) : (s.clockTick).genState = s.genState := rfl
@[simp] theorem State.clockTick_stopReq (s : State) : (s.clockTick).stopReq = s.stopReq := rfl
@[simp] theorem State.clockTick_seqPh (s : State) : (s.clockTick).seqPh = s.seqPh := rfl
@[simp] theorem State.clockTick_wSnap (s : State) : (s.clockTick).wSnap = s.wSnap := rfl
@[simp] theorem State.clockTick_waitDur (s : State) : (s.clockTick).waitDur = s.waitDur := rfl
@[simp] theorem State.clockTick_waitT0 (s : State) : (s.clockTick).waitT0 = s.waitT0 := rfl
@[simp] theorem State.clockTick_waitDelta (s : State) : (s.clockTick).waitDelta = s.waitDelta := rfl
@[simp] theorem State.clockTick_pinBind (s : State) : (s.clockTick).pinBind = s.pinBind := rfl
@[simp] theorem State.clockTick_t (s : State) : (s.clockTick).t = nextTick s.cfg s.t := rfl
@[simp] theorem State.clockTick_pinLevel (s : State) : (s.clockTick).pinLevel = s.pinLevel := rfl
@[simp] theorem State.clockTick_res (s : State) : (s.clockTick).res = s.res := rfl
@[simp] theorem State.clockTick_trace (s : State) : (s.clockTick).trace = s.trace := rfl
@[simp] theorem State.clockTick_refused (s : State) : (s.clockTick).refused = s.refused := rfl
@[simp] theorem State.clockTick_waitOp (s : State) : (s.clockTick).waitOp = s.waitOp := rfl
@[simp] theorem State.clockTick_wrapped (s : State) : (s.clockTick).wrapped = (s.wrapped || decide (nextTick s.cfg s.t < s.t + 1)) := rfl
@[simp] theorem State.clockTick_bus (s : State) : (s.clockTick).bus = s.bus := rfl
@[simp] theorem State.clockTick_agenda (s : State) : (s.clockTick).agenda = s.agenda := rfl
@[simp] theorem State.clockTick_turn (s : State) : (s.clockTick).turn = s.turn := rfl

/-! ### waitEntry -/

@[simp] theorem State.waitEntry_cfg (s : State) (d : F64) : (s.waitEntry d).cfg = s.cfg := rfl
@[simp] theorem State.waitEntry_onWidth (s : State) (d : F64) : (s.waitEntry d).onWidth = s.onWidth := rfl
@[simp] theorem State.waitEntry_period (s : State) (d : F64) : (s.waitEntry d).period = s.period := rfl
@[simp] theorem State.waitEntry_genState (s : State) (d : F64) : (s.waitEntry d).genState = s.genState := rfl
@[simp] theorem State.waitEntry_stopReq (s : State) (d : F64) : (s.waitEntry d).stopReq = s.stopReq := rfl
@[simp] theorem State.waitEntry_seqPh (s : State) (d : F64) : (s.waitEntry d).seqPh = s.seqPh := rfl
@[simp] theorem State.waitEntry_wSnap (s : State) (d : F64) : (s.waitEntry d).wSnap = s.wSnap := rfl
@[simp] theorem State.waitEntry_waitDur (s : State) (d : F64) : (s.waitEntry d).waitDur = d := rfl
@[simp] theorem State.waitEntry_waitT0 (s : State) (d : F64) : (s.waitEntry d).waitT0 = s.t := rfl
@[simp] theorem State.waitEntry_waitDelta (s : State) (d : F64) : (s.waitEntry d).waitDelta = waitTicks s.cfg d := rfl
@[simp] theorem State.waitEntry_pinBind (s : State) (d : F64) : (s.waitEntry d).pinBind = s.pinBind := rfl
@[simp] theorem State.waitEntry_t (s : State) (d : F64) : (s.waitEntry d).t = s.t := rfl
@[simp] theorem State.waitEntry_pinLevel (s : State) (d : F64) : (s.waitEntry d).pinLevel = s.pinLevel := rfl
@[simp] theorem State.waitEntry_res (s : State) (d : F64) : (s.waitEntry d).res = s.res := rfl
@[simp] theorem State.waitEntry_trace (s : State) (d : F64) : (s.waitEntry d).trace = s.trace ++ [.read s.t] := rfl
@[simp] theorem State.waitEntry_refused (s : State) (d : F64) : (s.waitEntry d).refused = s.refused := rfl
@[simp] theorem State.waitEntry_waitOp (s : State) (d : F64) : (s.waitEntry d).waitOp = s.waitOp := rfl
@[simp] theorem State.waitEntry_wrapped (s : State) (d : F64) : (s.waitEntry d).wrapped = false := rfl
@[simp] theorem State.waitEntry_bus (s : State) (d : F64) : (s.waitEntry d).bus = s.bus := rfl
@[simp] theorem State.waitEntry_agenda (s : State) (d : F64) : (s.waitEntry d).agenda = s.agenda := rfl
@[simp] theorem State.waitEntry_turn (s : State) (d : F64) : (s.waitEntry d).turn = s.turn := rfl

/-! ### The end of an operation: everything but the result ports and the trace stays -/

@[simp] theorem State.recordCmd_cfg (s : State) (i : Instr) (r : ResultPorts) (o : Option OperandValue) :
    (s.recordCmd i r o).cfg = s.cfg := by
  unfold State.recordCmd; split <;> rfl
@[simp] theorem State.recordCmd_onWidth (s : State) (i : Instr) (r : ResultPorts) (o : Option OperandValue) :
    (s.recordCmd i r o).onWidth = s.onWidth := by
  unfold State.recordCmd; split <;> rfl
@[simp] theorem State.recordCmd_period (s : State) (i : Instr) (r : ResultPorts) (o : Option OperandValue) :
    (s.recordCmd i r o).period = s.period := by
  unfold State.recordCmd; split <;> rfl
@[simp] theorem State.recordCmd_genState (s : State) (i : Instr) (r : ResultPorts) (o : Option OperandValue) :
    (s.recordCmd i r o).genState = s.genState := by
  unfold State.recordCmd; split <;> rfl
@[simp] theorem State.recordCmd_stopReq (s : State) (i : Instr) (r : ResultPorts) (o : Option OperandValue) :
    (s.recordCmd i r o).stopReq = s.stopReq := by
  unfold State.recordCmd; split <;> rfl
@[simp] theorem State.recordCmd_seqPh (s : State) (i : Instr) (r : ResultPorts) (o : Option OperandValue) :
    (s.recordCmd i r o).seqPh = s.seqPh := by
  unfold State.recordCmd; split <;> rfl
@[simp] theorem State.recordCmd_wSnap (s : State) (i : Instr) (r : ResultPorts) (o : Option OperandValue) :
    (s.recordCmd i r o).wSnap = s.wSnap := by
  unfold State.recordCmd; split <;> rfl
@[simp] theorem State.recordCmd_waitDur (s : State) (i : Instr) (r : ResultPorts) (o : Option OperandValue) :
    (s.recordCmd i r o).waitDur = s.waitDur := by
  unfold State.recordCmd; split <;> rfl
@[simp] theorem State.recordCmd_waitT0 (s : State) (i : Instr) (r : ResultPorts) (o : Option OperandValue) :
    (s.recordCmd i r o).waitT0 = s.waitT0 := by
  unfold State.recordCmd; split <;> rfl
@[simp] theorem State.recordCmd_waitDelta (s : State) (i : Instr) (r : ResultPorts) (o : Option OperandValue) :
    (s.recordCmd i r o).waitDelta = s.waitDelta := by
  unfold State.recordCmd; split <;> rfl
@[simp] theorem State.recordCmd_pinBind (s : State) (i : Instr) (r : ResultPorts) (o : Option OperandValue) :
    (s.recordCmd i r o).pinBind = s.pinBind := by
  unfold State.recordCmd; split <;> rfl
@[simp] theorem State.recordCmd_t (s : State) (i : Instr) (r : ResultPorts) (o : Option OperandValue) :
    (s.recordCmd i r o).t = s.t := by
  unfold State.recordCmd; split <;> rfl
@[simp] theorem State.recordCmd_pinLevel (s : State) (i : Instr) (r : ResultPorts) (o : Option OperandValue) :
    (s.recordCmd i r o).pinLevel = s.pinLevel := by
  unfold State.recordCmd; split <;> rfl
@[simp] theorem State.recordCmd_res (s : State) (i : Instr) (r : ResultPorts) (o : Option OperandValue) :
    (s.recordCmd i r o).res = s.res := by
  unfold State.recordCmd; split <;> rfl
@[simp] theorem State.recordCmd_refused (s : State) (i : Instr) (r : ResultPorts) (o : Option OperandValue) :
    (s.recordCmd i r o).refused = s.refused := by
  unfold State.recordCmd; split <;> rfl
@[simp] theorem State.recordCmd_waitOp (s : State) (i : Instr) (r : ResultPorts) (o : Option OperandValue) :
    (s.recordCmd i r o).waitOp = s.waitOp := by
  unfold State.recordCmd; split <;> rfl
@[simp] theorem State.recordCmd_wrapped (s : State) (i : Instr) (r : ResultPorts) (o : Option OperandValue) :
    (s.recordCmd i r o).wrapped = s.wrapped := by
  unfold State.recordCmd; split <;> rfl
@[simp] theorem State.recordCmd_bus (s : State) (i : Instr) (r : ResultPorts) (o : Option OperandValue) :
    (s.recordCmd i r o).bus = s.bus := by
  unfold State.recordCmd; split <;> rfl
@[simp] theorem State.recordCmd_agenda (s : State) (i : Instr) (r : ResultPorts) (o : Option OperandValue) :
    (s.recordCmd i r o).agenda = s.agenda := by
  unfold State.recordCmd; split <;> rfl
@[simp] theorem State.recordCmd_turn (s : State) (i : Instr) (r : ResultPorts) (o : Option OperandValue) :
    (s.recordCmd i r o).turn = s.turn := by
  unfold State.recordCmd; split <;> rfl

@[simp] theorem State.complete_cfg (s : State) (i : Instr) (r : ResultPorts) :
    (s.complete i r).cfg = s.cfg := by
  simp [State.complete]
@[simp] theorem State.complete_onWidth (s : State) (i : Instr) (r : ResultPorts) :
    (s.complete i r).onWidth = s.onWidth := by
  simp [State.complete]
@[simp] theorem State.complete_period (s : State) (i : Instr) (r : ResultPorts) :
    (s.complete i r).period = s.period := by
  simp [State.complete]
@[simp] theorem State.complete_genState (s : State) (i : Instr) (r : ResultPorts) :
    (s.complete i r).genState = s.genState := by
  simp [State.complete]
@[simp] theorem State.complete_stopReq (s : State) (i : Instr) (r : ResultPorts) :
    (s.complete i r).stopReq = s.stopReq := by
  simp [State.complete]
@[simp] theorem State.complete_seqPh (s : State) (i : Instr) (r : ResultPorts) :
    (s.complete i r).seqPh = s.seqPh := by
  simp [State.complete]
@[simp] theorem State.complete_wSnap (s : State) (i : Instr) (r : ResultPorts) :
    (s.complete i r).wSnap = s.wSnap := by
  simp [State.complete]
@[simp] theorem State.complete_waitDur (s : State) (i : Instr) (r : ResultPorts) :
    (s.complete i r).waitDur = s.waitDur := by
  simp [State.complete]
@[simp] theorem State.complete_waitT0 (s : State) (i : Instr) (r : ResultPorts) :
    (s.complete i r).waitT0 = s.waitT0 := by
  simp [State.complete]
@[simp] theorem State.complete_waitDelta (s : State) (i : Instr) (r : ResultPorts) :
    (s.complete i r).waitDelta = s.waitDelta := by
  simp [State.complete]
@[simp] theorem State.complete_pinBind (s : State) (i : Instr) (r : ResultPorts) :
    (s.complete i r).pinBind = s.pinBind := by
  simp [State.complete]
@[simp] theorem State.complete_t (s : State) (i : Instr) (r : ResultPorts) :
    (s.complete i r).t = s.t := by
  simp [State.complete]
@[simp] theorem State.complete_pinLevel (s : State) (i : Instr) (r : ResultPorts) :
    (s.complete i r).pinLevel = s.pinLevel := by
  simp [State.complete]
@[simp] theorem State.complete_res (s : State) (i : Instr) (r : ResultPorts) :
    (s.complete i r).res = r := by
  simp [State.complete]
@[simp] theorem State.complete_refused (s : State) (i : Instr) (r : ResultPorts) :
    (s.complete i r).refused = s.refused := by
  simp [State.complete]
@[simp] theorem State.complete_waitOp (s : State) (i : Instr) (r : ResultPorts) :
    (s.complete i r).waitOp = s.waitOp := by
  simp [State.complete]
@[simp] theorem State.complete_wrapped (s : State) (i : Instr) (r : ResultPorts) :
    (s.complete i r).wrapped = s.wrapped := by
  simp [State.complete]
@[simp] theorem State.complete_bus (s : State) (i : Instr) (r : ResultPorts) :
    (s.complete i r).bus = s.bus := by
  simp [State.complete]
@[simp] theorem State.complete_agenda (s : State) (i : Instr) (r : ResultPorts) :
    (s.complete i r).agenda = s.agenda := by
  simp [State.complete]
@[simp] theorem State.complete_turn (s : State) (i : Instr) (r : ResultPorts) :
    (s.complete i r).turn = s.turn := by
  simp [State.complete]

@[simp] theorem State.raise_cfg (s : State) (i : Instr) (e : Status) (o : Option OperandValue) :
    (s.raise i e o).cfg = s.cfg := by
  simp [State.raise]
@[simp] theorem State.raise_onWidth (s : State) (i : Instr) (e : Status) (o : Option OperandValue) :
    (s.raise i e o).onWidth = s.onWidth := by
  simp [State.raise]
@[simp] theorem State.raise_period (s : State) (i : Instr) (e : Status) (o : Option OperandValue) :
    (s.raise i e o).period = s.period := by
  simp [State.raise]
@[simp] theorem State.raise_genState (s : State) (i : Instr) (e : Status) (o : Option OperandValue) :
    (s.raise i e o).genState = s.genState := by
  simp [State.raise]
@[simp] theorem State.raise_stopReq (s : State) (i : Instr) (e : Status) (o : Option OperandValue) :
    (s.raise i e o).stopReq = s.stopReq := by
  simp [State.raise]
@[simp] theorem State.raise_seqPh (s : State) (i : Instr) (e : Status) (o : Option OperandValue) :
    (s.raise i e o).seqPh = s.seqPh := by
  simp [State.raise]
@[simp] theorem State.raise_wSnap (s : State) (i : Instr) (e : Status) (o : Option OperandValue) :
    (s.raise i e o).wSnap = s.wSnap := by
  simp [State.raise]
@[simp] theorem State.raise_waitDur (s : State) (i : Instr) (e : Status) (o : Option OperandValue) :
    (s.raise i e o).waitDur = s.waitDur := by
  simp [State.raise]
@[simp] theorem State.raise_waitT0 (s : State) (i : Instr) (e : Status) (o : Option OperandValue) :
    (s.raise i e o).waitT0 = s.waitT0 := by
  simp [State.raise]
@[simp] theorem State.raise_waitDelta (s : State) (i : Instr) (e : Status) (o : Option OperandValue) :
    (s.raise i e o).waitDelta = s.waitDelta := by
  simp [State.raise]
@[simp] theorem State.raise_pinBind (s : State) (i : Instr) (e : Status) (o : Option OperandValue) :
    (s.raise i e o).pinBind = s.pinBind := by
  simp [State.raise]
@[simp] theorem State.raise_t (s : State) (i : Instr) (e : Status) (o : Option OperandValue) :
    (s.raise i e o).t = s.t := by
  simp [State.raise]
@[simp] theorem State.raise_pinLevel (s : State) (i : Instr) (e : Status) (o : Option OperandValue) :
    (s.raise i e o).pinLevel = s.pinLevel := by
  simp [State.raise]
@[simp] theorem State.raise_res (s : State) (i : Instr) (e : Status) (o : Option OperandValue) :
    (s.raise i e o).res = raisePorts e := by
  simp [State.raise]
@[simp] theorem State.raise_refused (s : State) (i : Instr) (e : Status) (o : Option OperandValue) :
    (s.raise i e o).refused = s.refused := by
  simp [State.raise]
@[simp] theorem State.raise_waitOp (s : State) (i : Instr) (e : Status) (o : Option OperandValue) :
    (s.raise i e o).waitOp = s.waitOp := by
  simp [State.raise]
@[simp] theorem State.raise_wrapped (s : State) (i : Instr) (e : Status) (o : Option OperandValue) :
    (s.raise i e o).wrapped = s.wrapped := by
  simp [State.raise]
@[simp] theorem State.raise_bus (s : State) (i : Instr) (e : Status) (o : Option OperandValue) :
    (s.raise i e o).bus = s.bus := by
  simp [State.raise]
@[simp] theorem State.raise_agenda (s : State) (i : Instr) (e : Status) (o : Option OperandValue) :
    (s.raise i e o).agenda = s.agenda := by
  simp [State.raise]
@[simp] theorem State.raise_turn (s : State) (i : Instr) (e : Status) (o : Option OperandValue) :
    (s.raise i e o).turn = s.turn := by
  simp [State.raise]

/-- An operation of SEQ leaves no event of its own. -/
theorem State.recordCmd_of_seq (s : State) (i : Instr) (r : ResultPorts) (o : Option OperandValue)
    (h : s.bus.issuer = .seq) : s.recordCmd i r o = s := by
  simp [State.recordCmd, h]

/-- An operation of HOST or EDGE leaves one event. -/
theorem State.recordCmd_of_ne_seq (s : State) (i : Instr) (r : ResultPorts)
    (o : Option OperandValue) (h : s.bus.issuer ≠ .seq) :
    s.recordCmd i r o = s.record (.cmd s.bus.issuer i (operandList i s.bus.operands) r o) := by
  cases hi : s.bus.issuer <;> simp_all [State.recordCmd]

end Sys2Proof.Machine
end

