-- ==== Sys2Proof/Laws/Ops.lean ====
section
/-! SUPPORT. What each shared operation can do, said once, for later proofs to cite in place of
unfolding it. -/

namespace Sys2Proof.Machine

/-- The tick after `t` is either `t + 1`, or an earlier tick that a wrap leaves. -/
theorem nextTick_le (p : Params) (t : Nat) : nextTick p t ≤ t + 1 := by
  unfold nextTick
  split
  · exact le_rfl
  · exact Nat.mod_le _ _

/-- A counter of unbounded width adds one. -/
theorem nextTick_of_unbounded {p : Params} (h : p.tickBits = none) (t : Nat) :
    nextTick p t = t + 1 := by
  simp [nextTick, h]

/-- A CLK step without a wrap keeps the wrap mark. -/
theorem clockTick_wrapped_of_unbounded {s : State} (h : s.cfg.tickBits = none) :
    s.clockTick.wrapped = s.wrapped := by
  simp [nextTick_of_unbounded h]

/-- A poll refuses a wait across a wrap, or reads the clock and ends, or reads the clock and goes on. -/
theorem waitPoll_cases (s : State) (after : State → State) :
    (s.wrapped = true ∧ s.waitPoll after = s.refuse) ∨
    (s.wrapped = false ∧ s.waitOver = true ∧ s.waitPoll after = after s.readClock) ∨
    (s.wrapped = false ∧ s.waitOver = false ∧ s.waitPoll after = s.readClock) := by
  unfold State.waitPoll
  cases s.wrapped <;> cases s.waitOver <;> simp

/-- A pin write that answers a next state had a writer bound, and left the state its rule says. -/
theorem pinWrite_next {s u : State} {level : Level} {after : State → State}
    (h : s.pinWrite level after = .next u) :
    s.pinBind ≠ none ∧
    u = after { s.record (.pin s.t level s.bus.pinAnswer) with
      pinLevel := if s.bus.pinAnswer = .ok then level.toPin else s.pinLevel } := by
  unfold State.pinWrite at h
  split at h
  · cases h
  · rename_i b hb
    exact ⟨by simp [hb], by simpa using h.symm⟩

/-- A pin write with a writer bound always answers a next state. -/
theorem pinWrite_of_bound {s : State} (h : s.pinBind ≠ none) (level : Level)
    (after : State → State) : ∃ u, s.pinWrite level after = .next u := by
  unfold State.pinWrite
  split
  · exact absurd ‹_› h
  · exact ⟨_, rfl⟩

/-- clamp gives one of three values. -/
theorem clamp_cases (f : FloatFmt) (v p : F64) :
    (Float64.gt f v p = true ∧ clamp f v p = p) ∨
    (Float64.gt f v p = false ∧ Float64.ge f v posZero = true ∧ clamp f v p = v) ∨
    (Float64.gt f v p = false ∧ Float64.ge f v posZero = false ∧ clamp f v p = posZero) := by
  unfold clamp
  cases Float64.gt f v p <;> cases Float64.ge f v posZero <;> simp

/-- The CYC_START step stops the loop or takes a snapshot. -/
theorem cycStartStep_cases (s : State) :
    (s.stopReq = true ∧
      cycStartStep s = State.record { s with stopReq := false, genState := .stopped } .stopped) ∨
    (s.stopReq = false ∧
      cycStartStep s = State.record
        { s with
          wSnap := clamp s.fmt s.onWidth s.period
          seqPh := if Float64.eq s.fmt (clamp s.fmt s.onWidth s.period) posZero then .loWrite
            else .hiWrite }
        (.snap (clamp s.fmt s.onWidth s.period))) := by
  unfold cycStartStep
  cases s.stopReq <;> simp

/-- The buffer of `n` pixels has `3n` bytes. -/
theorem pixelBytes_length (px : List Pixel) : (pixelBytes px).length = 3 * px.length := by
  induction px with
  | nil => rfl
  | cons p rest ih => simp [pixelBytes, ih]; omega

end Sys2Proof.Machine
end

