-- ==== Sys2Proof/Laws/PerInstr.lean ====
section
/-! SUPPORT. One lemma per constructor of Instr: the form of its command word. -/

namespace Sys2Proof.Laws.WordForm

/-- The word of an operation carries its operation code, no reserved bit, and its `A` bit (R70, R73). -/
def Statement (i : Instr) : Prop :=
  opcField (encode i) = i.opcode ∧ rsvField (encode i) = 0 ∧ aField (encode i) = i.activeBit

theorem start : Statement .start := by unfold Statement; decide
theorem stop : Statement .stop := by unfold Statement; decide
theorem setOnWidth : Statement .setOnWidth := by unfold Statement; decide
theorem runCycle : Statement .runCycle := by unfold Statement; decide
theorem fwdEdge (a : Bool) : Statement (.fwdEdge a) := by unfold Statement; cases a <;> decide
theorem bwdEdge (a : Bool) : Statement (.bwdEdge a) := by unfold Statement; cases a <;> decide
theorem now : Statement .now := by unfold Statement; decide
theorem frequency : Statement .frequency := by unfold Statement; decide
theorem waitFor : Statement .waitFor := by unfold Statement; decide
theorem decodeHumidity : Statement .decodeHumidity := by unfold Statement; decide
theorem decodeTemperatureC : Statement .decodeTemperatureC := by unfold Statement; decide
theorem decodeAdc12 : Statement .decodeAdc12 := by unfold Statement; decide
theorem decodeAdc10 : Statement .decodeAdc10 := by unfold Statement; decide
theorem encodePixelFrame : Statement .encodePixelFrame := by unfold Statement; decide

end Sys2Proof.Laws.WordForm
end

