-- ==== Sys2Proof/Laws/Step.lean ====
section
/-! SUPPORT. What one step can do: the move it makes and the outcome of that move, said once. -/

namespace Sys2Proof.Machine

/-- Taking a move changes nothing but the agenda and the count of stretches. -/
theorem takeMove_snd (s : State) :
    ∃ l n, s.takeMove.2 = { s with agenda := l, turn := n } := by
  unfold State.takeMove
  split
  · exact ⟨_, s.turn, rfl⟩
  · exact ⟨_, _, rfl⟩

/-- The settled move at the head of the agenda is the one taken. -/
theorem takeMove_of_cons {s : State} {m : Move} {rest : List Move} (h : s.agenda = m :: rest) :
    s.takeMove = (m, { s with agenda := rest }) := by
  unfold State.takeMove
  rw [h]

/-- What SEQ can run: the poll of its WAIT_FOR, the phase step, or another word inside a cycle. -/
theorem seqServes_some {s : State} {i j : Instr} (h : s.seqServes i = some j) :
    s.genState = .running ∧
    ((i = .runCycle ∧ s.waitOp = true ∧ j = .waitFor) ∨
     (i = .runCycle ∧ s.waitOp = false ∧ j = .runCycle) ∨
     (i ≠ .runCycle ∧ s.waitOp = false ∧ s.seqPh.polls = false ∧ s.seqPh ≠ .cycStart ∧ j = i)) := by
  unfold State.seqServes at h
  split at h
  · cases h
  · rename_i hr
    refine ⟨by simpa using hr, ?_⟩
    split at h
    · rename_i hi
      cases hw : s.waitOp <;> simp_all
    · rename_i hi
      split at h <;> simp_all

/-- An agent other than SEQ runs what it issues. -/
theorem serves_of_ne_seq {s : State} {a : Issuer} (h : a ≠ .seq) (i : Instr) :
    s.serves a i = some i := by
  cases a <;> simp_all [State.serves]

/-- What the issue of a command can do: no step, a refusal, or the run of what `serves` says. -/
theorem serve_next {c : Command} {s u : State} (h : serve c s = .next u) :
    (u = s ∧ ∃ i, decodeFor c.issuer c.word = .ok i ∧
      (s.serves c.issuer i = none ∨ i.operandsOk s.fmt c.operands = false)) ∨
    (u = s.refuse ∧ ∃ e, decodeFor c.issuer c.word = .error e) ∨
    (∃ i j, decodeFor c.issuer c.word = .ok i ∧ i.operandsOk s.fmt c.operands = true ∧
      s.serves c.issuer i = some j ∧ exec j (s.present c) = .next u) := by
  unfold serve at h
  split at h
  · rename_i e he
    exact .inr (.inl ⟨by simpa using h.symm, e, he⟩)
  · rename_i i hi
    split at h
    · exact .inl ⟨by simpa using h.symm, i, hi, .inl ‹_›⟩
    · rename_i j hj
      split at h
      · exact .inr (.inr ⟨i, j, hi, ‹_›, hj, h⟩)
      · rename_i ho
        exact .inl ⟨by simpa using h.symm, i, hi, .inr (by simpa using ho)⟩

/-- What a step can do: a tick of CLK, or the issue of a command. -/
theorem step_next {s u : State} (h : step s = .next u) :
    (s.takeMove.1 = .clk ∧ u = s.takeMove.2.clockTick) ∨
    ∃ c, s.takeMove.1 = .issue c ∧ serve c s.takeMove.2 = .next u := by
  unfold step makeMove at h
  split at h
  · rename_i hm
    exact .inl ⟨hm, by simpa using h.symm⟩
  · rename_i c hm
    exact .inr ⟨c, hm, h⟩

end Sys2Proof.Machine
end

