-- ==== Sys2Proof/Tests/Slice0.lean ====
section
/-! SUPPORT. The model's own tests: command words written out from 30_encoding.md, the smoke test of
WellFormed, one-step tests with the values of 95_test_vectors.md, and the witnesses that meet the
hypotheses of the statements. -/

namespace Sys2Proof.Tests

open Sys2Proof Sys2Proof.Machine

/-! ### Helpers -/

/-- The parameters of the programs of 95_test_vectors.md §3: F_TICK = 10000. -/
def params : Params :=
  { fTick := 10000
    tickBits := none
    periodDefault := 0x4034000000000000
    fwdWidth := 0x4000000000000000
    bwdWidth := 0x3FF0000000000000
    floatFmt := .binary64
    maxPixels := 8
    adcMode := .adc12 }

/-- 1.0, 2.0, 10.0, 18.0, 20.0, 25.0 and a NaN in binary64. -/
def f1 : F64 := 0x3FF0000000000000
def f2 : F64 := 0x4000000000000000
def f10 : F64 := 0x4024000000000000
def f18 : F64 := 0x4032000000000000
def f20 : F64 := 0x4034000000000000
def f25 : F64 := 0x4039000000000000
def nan64 : F64 := 0x7FF8000000000000

/-- Right after reset with the draw T = 1000. -/
def idle : State := State.resetWith params 1000 0 0 0

/-- `s` with a command of `a` on the command ports. -/
def served (a : Issuer) (o : Operands) (s : State) : State :=
  { s with bus := { idleBus with issuer := a, operands := o } }

/-- RUNNING in a phase of a cycle with snapshot 2.0, whose wait of 2.0 ms was entered at T = 1000. -/
def running (ph : SeqPhase) : State :=
  { idle with
    genState := .running
    seqPh := ph
    pinBind := some 7
    onWidth := f2
    wSnap := f2
    waitDur := f2
    waitT0 := 1000
    waitDelta := f20 }

/-- A WAIT_FOR operation in progress since T = 1000, of 20 ticks. -/
def inWaitFor : State := { running .hiWrite with waitOp := true }

/-- The next state of an outcome, or `d` where there is none. -/
def nextOr (d : State) : Host.Outcome State Fault Refusal → State
  | .next u => u
  | .fault _ => d
  | .refused _ => d

/-- Whether an outcome is a next state. -/
def isNext : Host.Outcome State Fault Refusal → Bool
  | .next _ => true
  | .fault _ => false
  | .refused _ => false

theorem eq_next_of_isNext (d : State) {o : Host.Outcome State Fault Refusal} (h : isNext o = true) :
    o = .next (nextOr d o) := by
  cases o with
  | next u => rfl
  | fault f => cases h
  | refused r => cases h

/-- The state after an operation, or the state itself where it stops. -/
def after (i : Instr) (s : State) : State := nextOr s (exec i s)

/-- A command of `a` with word `w`. -/
def command (a : Issuer) (w : CmdWord) (o : Operands) : Command :=
  { issuer := a, word := w, operands := o, pinAnswer := .ok }

/-- The operands of a codec operation. -/
def buf (b : List Byte) : Operands := bufferOperands b

/-! ### The words of the opcode table, from the fields of R70 and the codes of R73 -/

theorem test_decode_start : decode 0b0000000100000000 = .ok .start := by decide
theorem test_decode_stop : decode 0b0000001000000000 = .ok .stop := by decide
theorem test_decode_set_on_width : decode 0b0000001100000000 = .ok .setOnWidth := by decide
theorem test_decode_run_cycle : decode 0b0000010000000000 = .ok .runCycle := by decide
theorem test_decode_fwd_edge_0 : decode 0b0000100000000000 = .ok (.fwdEdge false) := by decide
theorem test_decode_fwd_edge_1 : decode 0b0000100000000001 = .ok (.fwdEdge true) := by decide
theorem test_decode_bwd_edge_0 : decode 0b0000100100000000 = .ok (.bwdEdge false) := by decide
theorem test_decode_bwd_edge_1 : decode 0b0000100100000001 = .ok (.bwdEdge true) := by decide
theorem test_decode_now : decode 0b0001000000000000 = .ok .now := by decide
theorem test_decode_frequency : decode 0b0001000100000000 = .ok .frequency := by decide
theorem test_decode_wait_for : decode 0b0001001000000000 = .ok .waitFor := by decide
theorem test_decode_humidity : decode 0b0010000000000000 = .ok .decodeHumidity := by decide
theorem test_decode_temperature : decode 0b0010000100000000 = .ok .decodeTemperatureC := by decide
theorem test_decode_adc12 : decode 0b0010001000000000 = .ok .decodeAdc12 := by decide
theorem test_decode_adc10 : decode 0b0010001100000000 = .ok .decodeAdc10 := by decide
theorem test_decode_pixel_frame : decode 0b0010010000000000 = .ok .encodePixelFrame := by decide

/-- The refused rows of 95_test_vectors.md §2.1. -/
theorem test_decode_refused :
    decode 0x0000 = .error (.unassignedOpcode 0x00) ∧ decode 0x0101 = .error .strayActiveBit ∧
    decode 0x0102 = .error .reservedBitsSet ∧ decode 0x0500 = .error (.unassignedOpcode 0x05) ∧
    decode 0x0803 = .error .reservedBitsSet ∧ decode 0x09FF = .error .reservedBitsSet ∧
    decode 0x2401 = .error .strayActiveBit ∧ decode 0x2500 = .error (.unassignedOpcode 0x25) ∧
    decode 0xFFFF = .error (.unassignedOpcode 0xFF) := by decide

/-- The issuer rows of 95_test_vectors.md §2.1. -/
theorem test_decode_issuers :
    decodeFor .seq 0x0400 = .ok .runCycle ∧ decodeFor .host 0x0400 = .error (.wrongIssuer .host) ∧
    decodeFor .edge 0x0300 = .ok .setOnWidth ∧ decodeFor .host 0x0901 = .ok (.bwdEdge true) ∧
    decodeFor .seq 0x1000 = .ok .now ∧ decodeFor .seq 0x1200 = .ok .waitFor ∧
    decodeFor .host 0x1200 = .error (.wrongIssuer .host) := by decide

theorem test_table_word : decodeTableWord 16 0x0801 = some (.fwdEdge true) ∧
    decodeTableWord 16 0x0101 = none ∧ decodeTableWord 16 0x10100 = none := by decide

/-! ### WellFormed: an ill-formed term for each check -/

theorem test_wellFormed_accepts :
    Instr.wellFormed .binary64 .decodeAdc12 .host (buf [1, 2, 3]) = true := by decide
theorem test_wellFormed_refuses_issuer :
    Instr.wellFormed .binary64 .decodeAdc12 .edge (buf [1, 2, 3]) = false := by decide
theorem test_wellFormed_refuses_length :
    Instr.wellFormed .binary64 .decodeAdc12 .host { buf [1, 2, 3] with lenIn := 2 } = false := by
  decide
theorem test_wellFormed_refuses_wide_float :
    Instr.wellFormed .binary32 .setOnWidth .host { Operands.zero with widthIn := f2 } = false := by
  decide

/-! ### Arithmetic (R10) -/

/-- The literals of 43_sensor_codec.md in both formats. -/
theorem test_literals :
    Float64.literal .binary64 true 4685 100 = 0xC0476CCCCCCCCCCD ∧
    Float64.literal .binary64 false 17572 100 = 0x4065F70A3D70A3D7 ∧
    Float64.literal .binary32 true 4685 100 = 0xC23B6666 ∧
    Float64.literal .binary32 false 17572 100 = 0x432FB852 := by decide

/-- 95_test_vectors.md §2.2: 0.1 ms at 10 MHz needs 1000 ticks; the least subnormal at 3 Hz needs none.
-/
theorem test_wait_ticks :
    need { params with fTick := 10000000 } (Float64.literal .binary64 false 1 10) = 1000 ∧
    need { params with fTick := 10000000 } 1 = 1 ∧ waitTicks { params with fTick := 3 } 1 = 0 ∧
    need { params with fTick := 3 } f2 = 1 := by decide +kernel

/-- 95_test_vectors.md §2.2: `20.0 ⊖ 0.1` is the literal 19.9; `1e308` at 10 MHz overflows. -/
theorem test_sub_and_overflow :
    Float64.sub .binary64 f20 (Float64.literal .binary64 false 1 10) =
      Float64.literal .binary64 false 199 10 ∧
    waitTicks { params with fTick := 10000000 } (Float64.literal .binary64 false (10 ^ 308) 1) =
      0x7FF0000000000000 := by decide +kernel

/-- The clamp table of 95_test_vectors.md §2.3: -0.0 stays, 25.0 and +∞ give P, -1.0 and NaN give +0.0.
-/
theorem test_clamp :
    clamp .binary64 0x8000000000000000 f20 = 0x8000000000000000 ∧
    clamp .binary64 f25 f20 = f20 ∧ clamp .binary64 0x7FF0000000000000 f20 = f20 ∧
    clamp .binary64 0xBFF0000000000000 f20 = 0 ∧ clamp .binary64 nan64 f20 = 0 := by decide +kernel

/-! ### One step of each operation -/

/-- START period=10.0 pin=7 from IDLE (R120). -/
theorem test_start :
    let u := after .start (served .host { Operands.zero with periodIn := f10, pinIn := some 7 } idle)
    u.genState = .running ∧ u.period = f10 ∧ u.pinBind = some 7 ∧ u.res.status = some .ok := by
  decide +kernel

/-- START NaN with NONE gives InvalidInput and writes nothing (95_test_vectors.md §2.6). -/
theorem test_start_invalid :
    let u := after .start (served .host { Operands.zero with periodIn := nan64 } idle)
    u.genState = .idle ∧ u.period = f20 ∧ u.res.status = some .invalidInput := by decide

/-- STOP while RUNNING sets STOP_REQ; in IDLE it does not (R122, R123). -/
theorem test_stop : (after .stop (running .hiPoll)).stopReq = true ∧
    (after .stop idle).stopReq = false := by decide

/-- SET_ON_WIDTH width=25.0 stores 25.0 (95_test_vectors.md §3, program 3). -/
theorem test_set_on_width :
    (after .setOnWidth (served .host { Operands.zero with widthIn := f25 } idle)).onWidth = f25 := by
  decide

/-- clamp(25.0, 10.0) = 10.0 at CYC_START (95_test_vectors.md §3, program 3 step 8). -/
theorem test_cyc_start :
    let u := after .runCycle { running .cycStart with onWidth := f25, period := f10 }
    u.wSnap = f10 ∧ u.seqPh = .hiWrite ∧ u.trace = [.snap f10] := by decide +kernel

/-- PIN_LEVEL = LOW, then HI_WRITE with WriteFailure: the level stays, the phase goes on (§2.3). -/
theorem test_failed_write :
    let s := running .hiWrite
    let u := after .runCycle
      { s with pinLevel := .low, bus := { s.bus with pinAnswer := .writeFailure } }
    u.pinLevel = .low ∧ u.seqPh = .hiWaitEnter ∧
      u.trace = [.pin 1000 .high .writeFailure] := by decide

/-- An active edge after 7.0 leaves the width; an inactive one leaves +0.0 (95_test_vectors.md §2.4). -/
theorem test_fwd_edge :
    let s := { idle with onWidth := 0x401C000000000000 }
    (after (.fwdEdge true) s).onWidth = f2 ∧ (after (.fwdEdge false) s).onWidth = 0 := by decide

theorem test_bwd_edge :
    let s := { idle with onWidth := 0x401C000000000000 }
    (after (.bwdEdge true) s).onWidth = f1 ∧ (after (.bwdEdge false) s).onWidth = 0 := by decide

/-- With T = 1000, NOW returns 1000 (R102). -/
theorem test_now : (after .now idle).res.tick = some 1000 := by decide

/-- FREQUENCY returns F_TICK and records no read (R103). -/
theorem test_frequency : (after .frequency idle).res.tick = some 10000 ∧
    (traceTicks (after .frequency idle).trace) = [] := by decide

/-- The entry step of a 2.0 ms wait at 10 kHz: WAIT_DELTA = 20.0 (95_test_vectors.md §2.2). -/
theorem test_wait_entry :
    let u := after .waitFor (served .seq { Operands.zero with durIn := f2 } (running .hiWrite))
    u.waitT0 = 1000 ∧ u.waitDelta = f20 ∧ u.waitOp = true := by decide +kernel

/-- The poll that reads t0 + 19 goes on, and the one that reads t0 + 20 ends the wait. -/
theorem test_wait_poll :
    (after .waitFor { inWaitFor with t := 1019 }).waitOp = true ∧
    (after .waitFor { inWaitFor with t := 1020 }).waitOp = false := by decide

/-- 0x6666 gives 43.999237060546875 %RH, 0xFFFF gives 118.99809265136719 (95_test_vectors.md §2.5). -/
theorem test_humidity :
    (after .decodeHumidity (served .host (buf [0x66, 0x66]) idle)).res.f64 =
      some 0x4045FFE700000000 ∧
    (after .decodeHumidity (served .host (buf [0xFF, 0xFF]) idle)).res.f64 =
      some 0x405DBFE0C0000000 := by decide

/-- 0x7C80 gives 38.607578124999996 °C; in binary32, 0xFFFF gives 128.8673095703125 (§2.5). -/
theorem test_temperature :
    (after .decodeTemperatureC (served .host (buf [0x7C, 0x80]) idle)).res.f64 =
      some 0x40434DC51EB851EB ∧
    temperatureC .binary32 0xFFFF = 0x4300DE08 := by decide

/-- [01,87,65] gives 1893 and 869 (95_test_vectors.md §2.5). -/
theorem test_adc12 :
    (after .decodeAdc12 (served .host (buf [0x01, 0x87, 0x65]) idle)).res.int = some 1893 := by decide

theorem test_adc10 :
    (after .decodeAdc10 (served .host (buf [0x01, 0x87, 0x65]) idle)).res.int = some 869 := by decide

/-- Three pixels: the end marker has two bytes (95_test_vectors.md §2.5). -/
theorem test_pixel_frame :
    (after .encodePixelFrame (served .host
      (buf [1, 2, 3, 0x80, 0x81, 0xFE, 0xFF, 0xFF, 0xFF]) idle)).res.bytes =
      some [0, 0, 0, 0, 0xFF, 1, 1, 0, 0xFF, 0x7F, 0x40, 0x40, 0xFF, 0x7F, 0x7F, 0x7F, 0, 0] := by
  decide

/-- Lengths 4 and 3·(MAX_PIXELS + 1) give InvalidInput, length 0 gives five bytes (§2.5). -/
theorem test_pixel_frame_lengths :
    (after .encodePixelFrame (served .host (buf [1, 2, 3, 4]) idle)).res.status =
      some .invalidInput ∧
    (after .encodePixelFrame (served .host (buf (List.replicate 27 0)) idle)).res.status =
      some .invalidInput ∧
    (after .encodePixelFrame (served .host (buf []) idle)).res.bytes = some [0, 0, 0, 0, 0] := by
  decide

/-- The text of a line (R79), and the word and ports it stands for. -/
theorem test_assembler :
    (AsmLine.start (.decimal false 20 0) (some 7)).text = "START period=20.0 pin=7" ∧
    (AsmLine.fwdEdge true).text = "FWD_EDGE active=1" ∧
    ((AsmLine.start (.decimal false 20 0) (some 7)).command .binary64 .host .ok).operands.periodIn =
      f20 := by decide

/-- A refused word from HOST sets the mark and leaves the state (95_test_vectors.md §3, program 4 a). -/
theorem test_refused_word :
    let u := nextOr idle
      (step { idle with agenda := [.issue (command .host 0x0500 Operands.zero)] })
    u = { idle with refused := true } := by decide

/-- A word placed by `withFetchWord` is the next thing the machine of `State.reset` runs. -/
theorem test_fetch_word :
    (nextOr State.reset (step (State.reset.withFetchWord 16 0x0901))).onWidth =
      0x3FF0000000000000 := by decide

/-! ### Witnesses: states that meet the hypotheses of the statements -/

theorem witness_AssembledLineIsIssuable :
    (AsmLine.setOnWidth (.decimal true 15 1)).instr.allowsIssuer .edge = true := by decide

/-- The period on its port, the pixels on the bytes of BUF_IN, a rounded literal and one past the range. -/
theorem witness_AssembledLineIsIssuable_ports :
    let px : List Pixel := [⟨1, 2, 3⟩, ⟨4, 5, 6⟩]
    px[1]? = some ⟨4, 5, 6⟩ ∧
    ((AsmLine.encodePixelFrame px).command .binary64 .host .ok).operands.bufIn =
      [1, 2, 3, 4, 5, 6] ∧
    (F64Literal.decimal true 15 1).bits .binary64 = 0xBFF8000000000000 ∧
    (F64Literal.decimal false (10 ^ 40) 0).bits .binary32 = 0x7F800000 := by decide +kernel

/-- Bytes are written as two upper-case hex digits. -/
theorem test_assembler_bytes :
    (AsmLine.decodeHumidity [0xFF, 0x0A]).text = "DECODE_HUMIDITY buf=[FF,0A]" := by decide

/-- SET_ON_WIDTH from EDGE, RUN_CYCLE from SEQ, and NOW from SEQ inside a cycle. -/
theorem witness_StepRunsTheIssuedCommand :
    (decodeFor .edge 0x0300 = .ok .setOnWidth ∧
      Instr.operandsOk idle.fmt .setOnWidth { Operands.zero with widthIn := f25 } = true) ∧
    (decodeFor .seq 0x0400 = .ok .runCycle ∧
      Instr.operandsOk (running .loWrite).fmt .runCycle Operands.zero = true ∧
      (running .loWrite).genState = .running ∧ (running .loWrite).waitOp = false) ∧
    (decodeFor .seq 0x1000 = .ok .now ∧
      Instr.operandsOk (running .loWrite).fmt .now Operands.zero = true ∧
      (running .loWrite).seqPh.polls = false ∧ (running .loWrite).seqPh ≠ .cycStart) := by decide

/-- Refused words of HOST, EDGE and SEQ. -/
theorem witness_RefusedWordSetsOnlyTheMark :
    decodeFor .host 0x0101 = .error .strayActiveBit ∧
    decodeFor .edge 0x09FF = .error .reservedBitsSet ∧
    decodeFor .seq 0x0500 = .error (.unassignedOpcode 0x05) ∧
    decodeFor .seq 0x0100 = .error (.wrongIssuer .seq) := by decide

/-- START from a RUNNING SEQ in a poll phase sets the mark and leaves the phase. -/
theorem test_refused_word_of_seq :
    let s := { running .hiPoll with agenda := [.issue (command .seq 0x0100 Operands.zero)] }
    nextOr idle (step s) = { running .hiPoll with refused := true } := by decide

/-- NOW of SEQ inside a cycle, reads the clock and leaves the phase. -/
theorem test_now_of_seq :
    let s := { running .loWrite with agenda := [.issue (command .seq 0x1000 Operands.zero)] }
    let u := nextOr idle (step s)
    u.trace = [.read 1000] ∧ u.res.tick = some 1000 ∧ u.seqPh = .loWrite := by decide

theorem witness_RefusedMarkIsNeverCleared :
    let s := { idle with refused := true, agenda := [.clk] }
    step s = .next { s with agenda := [], t := 1001 } ∧ s.refused = true := by
  exact ⟨rfl, rfl⟩

theorem witness_UnissuableOperandsAreNoStep :
    decodeFor .host 0x2200 = .ok .decodeAdc12 ∧
    Instr.operandsOk idle.fmt .decodeAdc12 { buf [1, 2, 3] with lenIn := 4 } = false ∧
    decodeFor .seq 0x1200 = .ok .waitFor ∧
    Instr.operandsOk .binary32 .waitFor { Operands.zero with durIn := f2 } = false := by decide

theorem witness_SeqHasNoStepUnlessRunning :
    decodeFor .seq 0x0400 = .ok .runCycle ∧ decodeFor .seq 0x1000 = .ok .now ∧
    idle.genState ≠ .running ∧ { idle with genState := .stopped }.genState ≠ .running ∧
    { idle with genState := .degraded }.genState ≠ .running := by decide

/-- RUN_CYCLE and NOW of SEQ while RUNNING, at CYC_START and inside a cycle. -/
theorem witness_SeqRunsTheLoopWithoutAGap :
    decodeFor .seq 0x0400 = .ok .runCycle ∧ decodeFor .seq 0x1000 = .ok .now ∧
    (running .cycStart).genState = .running ∧ (running .cycStart).waitOp = false ∧
    (running .cycStart).seqPh = .cycStart ∧
    (let s := { running .loWrite with agenda := [.issue (command .seq 0x1000 Operands.zero)] }
     ∃ u, step s = .next u ∧ u.trace ≠ s.trace) := by
  refine ⟨by decide, by decide, by decide, by decide, by decide, _, rfl, by decide⟩

theorem witness_SeqInAWaitTakesOnlyPollSteps :
    decodeFor .seq 0x0400 = .ok .runCycle ∧ decodeFor .seq 0x1200 = .ok .waitFor ∧
    (inWaitFor.genState = .running ∧ inWaitFor.waitOp = true) ∧
    ((running .loPoll).genState = .running ∧ (running .loPoll).waitOp = false ∧
      (running .loPoll).seqPh.polls = true) := by decide

/-- The unbounded counter, a 10-bit counter in the middle, and one at its last tick. -/
theorem witness_ClockStepAddsOneTick :
    idle.cfg.tickBits = none ∧
    (let s := { idle with cfg := { params with tickBits := some 10 } }
     s.cfg.tickBits = some 10 ∧ s.t + 1 < 2 ^ 10 ∧
       { s with t := 1023 }.t + 1 = 2 ^ 10) := by decide

theorem witness_UnsettledMovesAreFree : idle.agenda = [] := by decide

theorem witness_NowReturnsTheTick : (served .host Operands.zero idle).bus.issuer = .host ∧
    (served .seq Operands.zero idle).bus.issuer = .seq := by decide

theorem witness_FrequencyReturnsTheTickRate : (served .host Operands.zero idle).bus.issuer = .host ∧
    (served .seq Operands.zero idle).bus.issuer = .seq := by decide

/-- The least positive duration begins a wait; +0.0, -0.0 and NaN do not. -/
theorem witness_WaitForBeginsOrReturnsAtOnce :
    (running .hiWrite).waitOp = false ∧ Float64.gt .binary64 1 posZero = true ∧
    Float64.gt .binary64 0 posZero = false ∧
    Float64.gt .binary64 0x8000000000000000 posZero = false ∧
    Float64.gt .binary64 nan64 posZero = false := by decide

/-- The last tick before the end of the wait and the first tick of its end. -/
theorem witness_WaitForPollEndsWhenTheTicksHaveElapsed :
    inWaitFor.waitOp = true ∧ inWaitFor.wrapped = false ∧
    (let s := { inWaitFor with t := 1020 }
     Float64.natGe s.fmt (s.t - s.waitT0) s.waitDelta = true) ∧
    (let s := { inWaitFor with t := 1019 }
     Float64.natGe s.fmt (s.t - s.waitT0) s.waitDelta = false) := by decide

theorem witness_WaitAcrossAWrapIsRefused :
    ({ inWaitFor with wrapped := true }.wrapped = true ∧ inWaitFor.waitOp = true) ∧
    ({ running .hiPoll with wrapped := true }.wrapped = true ∧
      (running .hiPoll).genState = .running ∧ (running .hiPoll).seqPh.polls = true) := by decide

theorem witness_WaitLengthIsNeverNaNOrNegative :
    1 ≤ params.fTick ∧ params.fTick < 2 ^ 53 ∧ Float64.gt params.floatFmt f2 posZero = true := by
  decide +kernel

theorem witness_PollTestIsTheCeilingTest :
    Float64.isFinite .binary64 1 = true ∧ Float64.ge .binary64 1 posZero = true ∧
    Float64.isFinite .binary64 0x8000000000000000 = true ∧
    Float64.ge .binary64 0x8000000000000000 posZero = true ∧
    Float64.isFinite .binary64 posZero = true ∧ Float64.ge .binary64 posZero posZero = true := by
  decide +kernel

theorem witness_WaitOfInfiniteLengthNeverEnds :
    let d := Float64.infinity .binary64 false
    ({ inWaitFor with waitDelta := d }.waitDelta = d ∧ inWaitFor.wrapped = false ∧
      inWaitFor.waitOp = true) ∧
    ({ running .loPoll with waitDelta := d }.waitDelta = d ∧ (running .loPoll).wrapped = false ∧
      (running .loPoll).genState = .running ∧ (running .loPoll).seqPh.polls = true) := by decide

/-- Finite operands: the largest finite value plus just under half a last place stays, plus half a last
place is infinite. -/
theorem witness_ArithmeticRoundsToNearestEven :
    let m : F64 := 0x7FEFFFFFFFFFFFFF
    Float64.isFinite .binary64 m = true ∧ Float64.isFinite .binary64 0x7C90000000000000 = true ∧
    Float64.isFinite .binary64 0x7C8FFFFFFFFFFFFF = true ∧
    Float64.add .binary64 m 0x7C8FFFFFFFFFFFFF = m ∧
    Float64.add .binary64 m 0x7C90000000000000 = Float64.infinity .binary64 false := by
  decide +kernel

/-- Finite operands with -0.0 among them, and NaN on either side. -/
theorem witness_ComparisonsFollowTheRealValues :
    Float64.isFinite .binary64 0x8000000000000000 = true ∧ Float64.isFinite .binary64 f2 = true ∧
    Float64.isNaN .binary64 nan64 = true := by decide

theorem witness_ArithmeticRoundsToNearestEven_divisor :
    Float64.real .binary64 f2 ≠ 0 := by
  have h : Float64.unpack .binary64 f2 = .fin false (2 ^ 52) (-51) := by decide
  simp [Float64.real, h]

/-- A state for each of START's four cases, with the least positive period among the admitted ones. -/
theorem witness_StartContract :
    let ok := fun (p : F64) => Float64.isFinite .binary64 p && Float64.gt .binary64 p posZero
    (served .host Operands.zero idle).bus.issuer = .host ∧ (running .loPoll).genState = .running ∧
    idle.genState ≠ .running ∧ ok nan64 = false ∧ ok 0 = false ∧ ok 0x7FF0000000000000 = false ∧
    ok 1 = true ∧ ok f20 = true ∧
    (served .host { Operands.zero with periodIn := 1 } idle).bus.operands.pinIn = none ∧
    (served .host { Operands.zero with periodIn := 1, pinIn := some 0 } idle).bus.operands.pinIn =
      some 0 := by decide +kernel

theorem witness_StopContract : (served .host Operands.zero idle).bus.issuer = .host ∧
    idle.genState ≠ .running ∧ (served .host Operands.zero (running .hiPoll)).bus.issuer = .host ∧
    (running .hiPoll).genState = .running := by decide

theorem witness_SetOnWidthStoresUnclamped :
    (served .edge { Operands.zero with widthIn := nan64 } idle).bus.issuer ≠ .seq := by decide

/-- A set stop request; a clear one with a snapshot of 2.0; a clear one with the snapshot -0.0. -/
theorem witness_CycStartStopsOrSnapshots :
    (running .cycStart).genState = .running ∧ (running .cycStart).seqPh = .cycStart ∧
    { running .cycStart with stopReq := true }.stopReq = true ∧
    (running .cycStart).stopReq = false ∧
    Float64.eq .binary64 (clamp .binary64 f2 f20) posZero = false ∧
    Float64.eq .binary64 (clamp .binary64 0x8000000000000000 f20) posZero = true := by decide +kernel

/-- P = 20.0, with v above P, v = P, v = -0.0, v negative, and v = NaN. -/
theorem witness_ClampStaysInRange :
    Float64.isFinite .binary64 f20 = true ∧ Float64.gt .binary64 f20 posZero = true ∧
    Float64.gt .binary64 f25 f20 = true ∧ Float64.gt .binary64 f20 f20 = false ∧
    Float64.ge .binary64 f20 posZero = true ∧
    Float64.ge .binary64 0x8000000000000000 posZero = true ∧
    Float64.gt .binary64 posZero 0xBFF0000000000000 = true ∧
    Float64.isNaN .binary64 nan64 = true := by decide +kernel

theorem witness_PinWritePhases :
    ((running .hiWrite).genState = .running ∧ (running .hiWrite).pinBind = some 7 ∧
      (running .hiWrite).seqPh = .hiWrite) ∧
    ((running .loWrite).genState = .running ∧ (running .loWrite).pinBind = some 7 ∧
      (running .loWrite).seqPh = .loWrite) := by decide

/-- W_SNAP = 2.0 in both wait-entry phases, W_SNAP = 0.0 in HI_WAIT_ENTER, and W_SNAP = PERIOD in
LO_WAIT_ENTER. -/
theorem witness_WaitEnterPhases :
    ((running .hiWaitEnter).genState = .running ∧ (running .hiWaitEnter).seqPh = .hiWaitEnter ∧
      Float64.gt .binary64 (running .hiWaitEnter).wSnap posZero = true) ∧
    ((running .loWaitEnter).genState = .running ∧ (running .loWaitEnter).seqPh = .loWaitEnter ∧
      Float64.gt .binary64 (Float64.sub .binary64 f20 f2) posZero = true) ∧
    { running .hiWaitEnter with wSnap := 0 }.seqPh = .hiWaitEnter ∧
    Float64.gt .binary64 0 posZero = false ∧
    Float64.gt .binary64 (Float64.sub .binary64 f20 f20) posZero = false := by decide +kernel

theorem witness_PollPhases :
    (running .hiPoll).genState = .running ∧ (running .hiPoll).wrapped = false ∧
    (running .hiPoll).seqPh = .hiPoll ∧ (running .loPoll).genState = .running ∧
    (running .loPoll).wrapped = false ∧ (running .loPoll).seqPh = .loPoll ∧
    (running .hiPoll).seqPh.polls = true ∧
    (let s := { running .hiPoll with t := 1020 }
     Float64.natGe s.fmt (s.t - s.waitT0) s.waitDelta = true) ∧
    (let s := { running .hiPoll with t := 1019 }
     Float64.natGe s.fmt (s.t - s.waitT0) s.waitDelta = false) := by decide

/-- W_SNAP at both ends of its range, 0.0 and PERIOD. -/
theorem witness_LowWaitDifferenceStaysInRange :
    Float64.isFinite .binary64 f20 = true ∧ Float64.gt .binary64 f20 posZero = true ∧
    Float64.ge .binary64 0 posZero = true ∧ Float64.le .binary64 0 f20 = true ∧
    Float64.ge .binary64 f20 posZero = true ∧ Float64.le .binary64 f20 f20 = true := by decide +kernel

theorem witness_PinAnswerChangesOnlyThePin :
    let s := running .loWrite
    let with_ := fun (r : PinResult) => { s with bus := { s.bus with pinAnswer := r } }
    ∃ u v, exec .runCycle (with_ .ok) = .next u ∧
      exec .runCycle (with_ .writeFailure) = .next v ∧ u ≠ v := by
  refine ⟨_, _, rfl, rfl, ?_⟩
  decide

/-- START from IDLE, and the stop at CYC_START. -/
theorem witness_GenStateTransitions :
    (let s := { idle with agenda := [.issue (command .host 0x0100
        { Operands.zero with periodIn := f20, pinIn := some 7 })] }
     ∃ u, step s = .next u ∧ u.genState ≠ s.genState) ∧
    (let s := { running .cycStart with stopReq := true, agenda := [.seqTurn .ok] }
     ∃ u, step s = .next u ∧ u.genState ≠ s.genState) := by
  exact ⟨⟨_, eq_next_of_isNext idle (by decide +kernel), by decide +kernel⟩,
    ⟨_, rfl, by decide⟩⟩

theorem witness_OnWidthWriters :
    let s := { idle with agenda := [.issue (command .edge 0x0801 Operands.zero)] }
    ∃ u, step s = .next u ∧ u.onWidth ≠ s.onWidth := by
  refine ⟨_, rfl, ?_⟩
  decide

theorem witness_PeriodIsWrittenByStartOnly :
    let s := { idle with agenda := [.issue (command .host 0x0100
      { Operands.zero with periodIn := f10 })] }
    ∃ u, step s = .next u ∧ u.period ≠ s.period :=
  ⟨_, eq_next_of_isNext idle (by decide +kernel), by decide +kernel⟩

theorem witness_ConstantsNeverChange :
    ∃ u, step { idle with agenda := [.clk] } = .next u := ⟨_, rfl⟩

theorem witness_OnlyTheClockChangesTheTick :
    let s := { idle with agenda := [.clk] }
    s.cfg.tickBits = none ∧ ∃ u, step s = .next u ∧ u.t ≠ s.t := by
  refine ⟨rfl, _, rfl, ?_⟩
  decide

theorem witness_PinLevelChangesOnlyByASuccessfulWrite :
    let s := { running .hiWrite with agenda := [.seqTurn .ok] }
    ∃ u, step s = .next u ∧ u.pinLevel ≠ s.pinLevel := by
  refine ⟨_, rfl, ?_⟩
  decide

theorem witness_TraceOnlyGrows :
    let s := { running .cycStart with agenda := [.seqTurn .ok] }
    ∃ u, step s = .next u ∧ u.trace ≠ s.trace := by
  refine ⟨_, rfl, ?_⟩
  decide

theorem witness_MidCycleStepsIgnoreSetpointAndStop :
    (running .hiPoll).seqPh ≠ .cycStart ∧ ∃ u, exec .runCycle (running .hiPoll) = .next u :=
  ⟨by decide, _, rfl⟩

/-- The register invariant holds in a state of the HIGH phase, with a wait in progress. -/
theorem running_hiPoll_inv : (running .hiPoll).Inv := by
  constructor <;> first
    | decide +kernel
    | (intro _ _; decide +kernel)

theorem witness_EveryStepKeepsTheRegisterInvariant :
    let s := { running .hiPoll with agenda := [.seqTurn .ok], t := 1020 }
    s.Inv ∧ ∃ u, step s = .next u ∧ u.seqPh = .loWrite := by
  refine ⟨?_, _, rfl, by decide⟩
  constructor <;> first
    | decide +kernel
    | (intro _ _; decide +kernel)

theorem witness_NoStepStopsTheMachine : (running .hiPoll).Inv := running_hiPoll_inv

theorem witness_EveryStepKeepsTheTicksOrdered :
    let s := { running .hiWrite with
      agenda := [.seqTurn .ok], trace := [.read 990, .snap f2, .read 1000] }
    s.cfg.tickBits = none ∧ s.ticksOrdered ∧ ∃ u, step s = .next u := by
  refine ⟨rfl, ⟨by decide, by decide⟩, _, rfl⟩

/-- A trace up to the wait of the HIGH phase: START, the snapshot 2.0, the HIGH write and the entry
read. -/
def trainTrace : List Event :=
  [.cmd .host .start [.f64 f20, .pin (some 7)] okPorts none, .snap f2, .pin 1000 .high .ok,
    .read 1000]

theorem witness_EveryStepKeepsThePulseTrain :
    let s := { running .hiPoll with trace := trainTrace, t := 1020, agenda := [.seqTurn .ok] }
    s.cfg.tickBits = none ∧ s.Inv ∧ s.trainHolds ∧ ∃ u, step s = .next u ∧ u.seqPh = .loWrite := by
  refine ⟨rfl, ?_, ⟨{ expect := .low, snap := f2, period := f20, due := 1020 }, by decide +kernel, ?_, ?_⟩,
    _, rfl, by decide⟩
  · constructor <;> first
    | decide +kernel
    | (intro _ _; decide +kernel)
  · intro _
    exact ⟨rfl, rfl, rfl, by decide⟩
  · intro h
    exact absurd rfl h

theorem witness_ResetMeetsTheInvariants : Admitted params := by
  constructor <;> decide +kernel

theorem witness_ClockAndSequencerAreNeverStarved :
    (running .hiPoll).Inv ∧ (running .hiPoll).cfg.tickBits = none := ⟨running_hiPoll_inv, rfl⟩

theorem witness_EdgesWriteTheSetpoint : (served .edge Operands.zero idle).bus.issuer ≠ .seq := by
  decide

theorem witness_LastSetpointWriterWins :
    (∀ q ∈ [(Instr.fwdEdge true, idleBus)],
      (setpointOf idle.cfg q.2.operands q.1).isSome = true) ∧
    setpointOf idle.cfg idleBus.operands (.bwdEdge true) = some f1 := by decide

theorem witness_HumidityContract :
    let s := served .host (buf [0x80, 0x00]) idle
    s.bus.issuer = .host ∧ s.bus.operands.bufIn = [0x80, 0x00] ∧ s.bus.operands.lenIn = 2 := by decide

theorem witness_TemperatureContract :
    let s := served .host (buf [0xFF, 0xFF]) idle
    s.bus.issuer = .host ∧ s.bus.operands.bufIn = [0xFF, 0xFF] ∧ s.bus.operands.lenIn = 2 := by decide

theorem witness_AdcContract :
    let s := served .host (buf [0x12, 0x3A, 0x5C]) idle
    s.bus.issuer = .host ∧ s.bus.operands.bufIn = [0x12, 0x3A, 0x5C] ∧
    s.bus.operands.lenIn = 3 := by decide

/-- A frame of MAX_PIXELS pixels. -/
theorem witness_PixelFrameContract :
    let px : List Pixel := List.replicate 8 { r := 255, g := 128, b := 0 }
    let s := served .host (buf (pixelBytes px)) idle
    s.bus.issuer = .host ∧ s.bus.operands.bufIn = pixelBytes px ∧
    s.bus.operands.lenIn = 3 * px.length ∧ px.length ≤ s.cfg.maxPixels := by decide

/-- Both ends of the ranges of the end marker: 2, 3, 18, 19 and 34 pixels. -/
theorem witness_PixelFrameLength :
    (2 ≤ 2) ∧ (3 ≤ 3 ∧ 3 ≤ 18) ∧ (3 ≤ 18 ∧ 18 ≤ 18) ∧ (19 ≤ 19 ∧ 19 ≤ 34) ∧
    (1 ≤ 2 ∧ 16 * 2 ≤ 34 + 13 ∧ 34 ≤ 16 * 2 + 2) ∧
    (pixelFrame 3 (pixelBytes (List.replicate 3 { r := 1, g := 2, b := 3 }))).length = 18 := by decide

/-- A length just past and just short of each admitted one. -/
theorem witness_WrongBufferLengthIsInvalidInput :
    (served .host (buf [1, 2, 3]) idle).bus.issuer = .host ∧
    (buf [1, 2, 3]).lenIn ≠ 2 ∧ (buf [1]).lenIn ≠ 2 ∧ (buf [1, 2]).lenIn ≠ 3 ∧
    (buf [1, 2, 3, 4]).lenIn ≠ 3 ∧ (buf [1, 2, 3, 4]).lenIn % 3 ≠ 0 ∧
    idle.cfg.maxPixels < (buf (List.replicate 27 0)).lenIn / 3 := by decide

theorem witness_CodecIsStateless :
    Instr.readsBuffer .decodeHumidity = true ∧
    (running .hiPoll).cfg = idle.cfg ∧ (running .hiPoll).bus = idle.bus := by decide

end Sys2Proof.Tests
end

section
/-! PROOFS. What reset and NOW leave behind, and that the trace only grows. -/

namespace Sys2Proof.Machine

/-! ### Reset -/

/-- A block that is IDLE, with no stop request and no WAIT_FOR in progress, meets the register
invariant as soon as its period is admitted: the other clauses speak of RUNNING alone. -/
theorem State.inv_of_idle {s : State} (hidle : s.genState = .idle) (hstop : s.stopReq = false)
    (hwait : s.waitOp = false) (hperiod : periodAdmitted s.fmt s.period = true) : s.Inv where
  bound := by simp [hidle]
  stopRunning := by simp [hstop]
  opRunning := by simp [hwait]
  periodOk := hperiod
  snapRange := by simp [hidle]
  snapPositive := by simp [hidle]
  highWait := by simp [hidle]
  lowWait := by simp [hidle]
  entryRead := by simp [State.waiting, hidle, hwait]

/-- Before the first event the ticks are in order. -/
theorem State.ticksOrdered_of_no_events {s : State} (h : s.trace = []) : s.ticksOrdered := by
  simp [State.ticksOrdered, traceTicks, h]

/-- Before the first event the train is the empty one, which a block that is not RUNNING follows. -/
theorem State.trainHolds_of_no_events {s : State} (h : s.trace = []) (hidle : s.genState = .idle) :
    s.trainHolds := by
  refine ⟨Train.empty, by simp [trainOf, h], ?_, ?_⟩
  · simp [hidle]
  · intro _
    exact ⟨rfl, Nat.zero_le _⟩

/-- Settles O46: reset leaves the block IDLE with an empty trace and the admitted default period. -/
theorem resetMeetsTheInvariants : Obligations.ResetMeetsTheInvariants := by
  intro p tick t0 dur delta hp
  exact ⟨State.inv_of_idle rfl rfl rfl hp.periodOk, State.ticksOrdered_of_no_events rfl,
    State.trainHolds_of_no_events rfl rfl⟩

/-! ### NOW -/

/-- NOW is issued as the word 0x1000, by HOST and by SEQ. -/
theorem now_issuedAs : IssuedAs .now 0x1000 [.host, .seq] := by
  refine ⟨by decide, fun a => ?_⟩
  cases a <;> decide

/-- Settles O14: the clock read comes first, then the event of the operation, which SEQ's has not.
-/
theorem nowReturnsTheTick : Obligations.NowReturnsTheTick := by
  refine ⟨now_issuedAs, fun s => ⟨fun hhost => ?_, fun hseq => ?_⟩⟩
  · have hne : (s.readClock.drive (okTick s.t)).bus.issuer ≠ .seq := by simp [hhost]
    simp only [exec, execNow, State.complete, State.recordCmd_of_ne_seq _ _ _ _ hne]
    simp [State.record, State.drive, State.readClock, okTick, operandList, hhost]
  · have heq : (s.readClock.drive (okTick s.t)).bus.issuer = .seq := by simp [hseq]
    simp only [exec, execNow, State.complete, State.recordCmd_of_seq _ _ _ _ heq]
    rfl

/-! ### The trace -/

/-- An operation of HOST or EDGE adds at most its own event. -/
theorem State.trace_prefix_recordCmd (s : State) (i : Instr) (r : ResultPorts)
    (o : Option OperandValue) : s.trace <+: (s.recordCmd i r o).trace := by
  by_cases h : s.bus.issuer = .seq
  · rw [State.recordCmd_of_seq s i r o h]
  · rw [State.recordCmd_of_ne_seq s i r o h, State.record_trace]
    exact List.prefix_append _ _

/-- `return` after register writes that add no event keeps the trace so far. -/
theorem trace_prefix_complete {s v : State} {i : Instr} {r : ResultPorts}
    (hwrites : v.trace = s.trace) : s.trace <+: (v.complete i r).trace :=
  hwrites ▸ (v.drive r).trace_prefix_recordCmd i r none

/-- `raise` after register writes that add no event keeps the trace so far. -/
theorem trace_prefix_raise {s v : State} {i : Instr} {e : Status}
    {o : Option OperandValue} (hwrites : v.trace = s.trace) : s.trace <+: (v.raise i e o).trace :=
  hwrites ▸ (v.drive (raisePorts e)).trace_prefix_recordCmd i (raisePorts e) o

/-- A poll adds at most its clock read, when what follows it adds no event. -/
theorem State.trace_prefix_waitPoll (s : State) {after : State → State}
    (hafter : ∀ u, (after u).trace = u.trace) : s.trace <+: (s.waitPoll after).trace := by
  obtain ⟨_, h⟩ | ⟨_, _, h⟩ | ⟨_, _, h⟩ := waitPoll_cases s after <;> simp [h, hafter]

/-- A pin write adds its event, when what follows it adds none. -/
theorem State.trace_prefix_pinWrite {s u : State} {level : Level} {after : State → State}
    (h : s.pinWrite level after = .next u) (hafter : ∀ v, (after v).trace = v.trace) :
    s.trace <+: u.trace := by
  obtain ⟨_, rfl⟩ := pinWrite_next h
  simp [hafter]

/-- CYC_START adds the stop or the snapshot. -/
theorem trace_prefix_cycStartStep (s : State) : s.trace <+: (cycStartStep s).trace := by
  obtain ⟨_, h⟩ | ⟨_, h⟩ := cycStartStep_cases s <;> simp [h]

/-- HI_WAIT_ENTER adds at most the entry read. -/
theorem trace_prefix_hiWaitEnterStep (s : State) : s.trace <+: (hiWaitEnterStep s).trace := by
  unfold hiWaitEnterStep
  split <;> simp

/-- LO_WAIT_ENTER adds at most the entry read. -/
theorem trace_prefix_loWaitEnterStep (s : State) : s.trace <+: (loWaitEnterStep s).trace := by
  unfold loWaitEnterStep
  split <;> simp

/-- Each phase step of RUN_CYCLE keeps the trace so far. -/
theorem trace_prefix_execRunCycle {s u : State} (h : execRunCycle s = .next u) :
    s.trace <+: u.trace := by
  unfold execRunCycle at h
  split at h
  · split at h
    case h_1 => cases h; exact trace_prefix_cycStartStep s
    case h_2 => exact State.trace_prefix_pinWrite h fun _ => rfl
    case h_3 => cases h; exact trace_prefix_hiWaitEnterStep s
    case h_4 => cases h; exact s.trace_prefix_waitPoll fun _ => rfl
    case h_5 => exact State.trace_prefix_pinWrite h fun _ => rfl
    case h_6 => cases h; exact trace_prefix_loWaitEnterStep s
    case h_7 => cases h; exact s.trace_prefix_waitPoll fun _ => rfl
  · cases h
    exact List.prefix_rfl

/-- Each step of WAIT_FOR keeps the trace so far. -/
theorem trace_prefix_execWaitFor {s u : State} (h : execWaitFor s = .next u) :
    s.trace <+: u.trace := by
  unfold execWaitFor at h
  split at h
  · cases h
    exact s.trace_prefix_waitPoll fun _ => rfl
  · split at h <;> cases h <;> simp

/-- START keeps the trace so far in each of its four outcomes. -/
theorem trace_prefix_execStart {s u : State} (h : execStart s = .next u) : s.trace <+: u.trace := by
  unfold execStart at h
  dsimp only at h
  split at h
  · cases h
    simp
  · split at h
    · cases h
      exact trace_prefix_raise rfl
    · split at h <;> cases h
      · exact trace_prefix_raise rfl
      · exact trace_prefix_complete rfl

/-- A codec operation that checks its length ends by `raise` or by `return`. -/
theorem trace_prefix_of_length_check {s u : State} {i j : Instr} {r : ResultPorts} {wrong : Prop}
    [Decidable wrong]
    (h : (if wrong then .next (s.wrongLength i) else .next (s.complete j r) :
      Host.Outcome State Fault Refusal) = .next u) : s.trace <+: u.trace := by
  split at h <;> cases h
  · exact trace_prefix_raise rfl
  · exact trace_prefix_complete rfl

/-- Every operation keeps the trace so far. -/
theorem trace_prefix_exec {i : Instr} {s u : State} (h : exec i s = .next u) :
    s.trace <+: u.trace := by
  cases i with
  | start => exact trace_prefix_execStart h
  | stop =>
    have h : execStop s = .next u := h
    unfold execStop at h
    split at h <;> cases h <;> exact trace_prefix_complete rfl
  | setOnWidth =>
    cases h
    exact trace_prefix_complete rfl
  | runCycle => exact trace_prefix_execRunCycle h
  | fwdEdge a =>
    cases h
    exact trace_prefix_complete rfl
  | bwdEdge a =>
    cases h
    exact trace_prefix_complete rfl
  | now =>
    cases h
    have hread : s.trace <+: s.readClock.trace := by simp
    exact hread.trans (trace_prefix_complete rfl)
  | frequency =>
    cases h
    exact trace_prefix_complete rfl
  | waitFor => exact trace_prefix_execWaitFor h
  | decodeHumidity => exact trace_prefix_of_length_check h
  | decodeTemperatureC => exact trace_prefix_of_length_check h
  | decodeAdc12 => exact trace_prefix_of_length_check h
  | decodeAdc10 => exact trace_prefix_of_length_check h
  | encodePixelFrame => exact trace_prefix_of_length_check h

/-- The issue of a command keeps the trace so far. -/
theorem trace_prefix_serve {c : Command} {s u : State} (h : serve c s = .next u) :
    s.trace <+: u.trace := by
  obtain ⟨rfl, _⟩ | ⟨rfl, _⟩ | ⟨i, j, _, _, _, hexec⟩ := serve_next h
  · exact List.prefix_rfl
  · simp
  · simpa using trace_prefix_exec hexec

/-- Taking a move leaves the trace. -/
theorem takeMove_trace (s : State) : s.takeMove.2.trace = s.trace := by
  obtain ⟨l, n, h⟩ := takeMove_snd s
  simp [h]

/-- Settles O40: a tick adds no event, and no command takes one away. -/
theorem traceOnlyGrows : Obligations.TraceOnlyGrows := by
  intro s u h
  suffices hgrow : s.takeMove.2.trace <+: u.trace by
    obtain ⟨l, hl⟩ := hgrow
    exact ⟨l, by rw [← hl, takeMove_trace]⟩
  obtain ⟨_, rfl⟩ | ⟨c, _, hserve⟩ := step_next h
  · simp
  · exact trace_prefix_serve hserve

end Sys2Proof.Machine
end

section
/-! PROOFS. What the patterns of a float format stand for: the fields of a built pattern, the range
and the real value of a finite one, and the comparisons (R10). -/

namespace Sys2Proof

/-! ### The format -/

theorem FloatFmt.width_eq (f : FloatFmt) : f.width = f.expBits + f.fracBits + 1 := by
  unfold FloatFmt.width
  omega

/-- A pattern of the format stands in the 64-bit word. -/
theorem FloatFmt.width_le (f : FloatFmt) : f.expBits + f.fracBits + 1 ≤ 64 := by
  cases f <;> decide

theorem FloatFmt.two_le_expBits (f : FloatFmt) : 2 ≤ f.expBits := by
  cases f <;> decide

theorem FloatFmt.fracBits_pos (f : FloatFmt) : 0 < f.fracBits := by
  cases f <;> decide

/-- The pattern of the infinity leaves the sign bit free. -/
theorem FloatFmt.infMag_add (f : FloatFmt) :
    f.infMag + 2 ^ f.fracBits = 2 ^ (f.expBits + f.fracBits) := by
  unfold FloatFmt.infMag
  rw [pow_add, ← Nat.succ_mul, Nat.succ_eq_add_one, Nat.sub_add_cancel Nat.one_le_two_pow]

theorem FloatFmt.infMag_lt (f : FloatFmt) : f.infMag < 2 ^ (f.expBits + f.fracBits) := by
  have := f.infMag_add
  have := Nat.two_pow_pos f.fracBits
  omega

namespace Float64

/-! ### Patterns built from a sign and a magnitude -/

section
variable {f : FloatFmt} {mag : Nat} (neg : Bool)

theorem toNat_withSign (h : mag < 2 ^ (f.expBits + f.fracBits)) :
    (withSign f neg mag).toNat = mag + if neg then 2 ^ (f.expBits + f.fracBits) else 0 := by
  have hwidth : 2 ^ (f.expBits + f.fracBits) * 2 ≤ 2 ^ 64 := by
    rw [← pow_succ]
    exact Nat.pow_le_pow_right (by decide) f.width_le
  rw [withSign, f.width_eq, Nat.add_sub_cancel, BitVec.toNat_ofNat, Nat.mod_eq_of_lt]
  split <;> omega

/-- A built pattern is no wider than the format. -/
theorem fits_withSign (h : mag < 2 ^ (f.expBits + f.fracBits)) :
    fits f (withSign f neg mag) = true := by
  rw [fits, decide_eq_true_eq, toNat_withSign neg h, f.width_eq, pow_succ]
  split <;> omega

theorem expField_withSign (h : mag < 2 ^ (f.expBits + f.fracBits)) :
    expField f (withSign f neg mag) = mag / 2 ^ f.fracBits := by
  have hlt : mag / 2 ^ f.fracBits < 2 ^ f.expBits := by
    rwa [Nat.div_lt_iff_lt_mul (Nat.two_pow_pos _), ← pow_add]
  rw [expField, toNat_withSign neg h]
  cases neg
  · simp [Nat.mod_eq_of_lt hlt]
  · rw [if_pos rfl, pow_add, Nat.add_mul_div_right _ _ (Nat.two_pow_pos _), Nat.add_mod_right,
      Nat.mod_eq_of_lt hlt]

theorem fracField_withSign (h : mag < 2 ^ (f.expBits + f.fracBits)) :
    fracField f (withSign f neg mag) = mag % 2 ^ f.fracBits := by
  rw [fracField, toNat_withSign neg h]
  cases neg
  · simp
  · rw [if_pos rfl, pow_add, Nat.add_mul_mod_self_right]

theorem signBit_withSign (h : mag < 2 ^ (f.expBits + f.fracBits)) :
    signBit f (withSign f neg mag) = neg := by
  rw [signBit, toNat_withSign neg h, f.width_eq, Nat.add_sub_cancel]
  cases neg
  · simp [Nat.testBit_lt_two_pow h]
  · rw [if_pos rfl, Nat.add_comm, Nat.testBit_two_pow_add_eq, Nat.testBit_lt_two_pow h]
    rfl

/-- The sign does not show in the last bit of a pattern. -/
theorem toNat_withSign_mod_two (h : mag < 2 ^ (f.expBits + f.fracBits)) :
    (withSign f neg mag).toNat % 2 = mag % 2 := by
  have heven : 2 ∣ 2 ^ (f.expBits + f.fracBits) :=
    dvd_pow_self 2 (by have := f.fracBits_pos; omega)
  rw [toNat_withSign neg h]
  split <;> omega

/-- The infinity of a sign stands for just that. -/
theorem unpack_infinity : unpack f (infinity f neg) = .inf neg := by
  have hexp : f.infMag / 2 ^ f.fracBits = 2 ^ f.expBits - 1 := by
    rw [FloatFmt.infMag, Nat.mul_div_cancel _ (Nat.two_pow_pos _)]
  have hfrac : f.infMag % 2 ^ f.fracBits = 0 := by
    rw [FloatFmt.infMag, Nat.mul_mod_left]
  simp [unpack, infinity, expField_withSign neg f.infMag_lt, fracField_withSign neg f.infMag_lt,
    signBit_withSign neg f.infMag_lt, hexp, hfrac]

/-- A magnitude between the pattern of the infinity and the sign bit is a NaN. -/
theorem unpack_withSign_of_gt (hgt : f.infMag < mag) (h : mag < 2 ^ (f.expBits + f.fracBits)) :
    unpack f (withSign f neg mag) = .nan := by
  obtain ⟨d, rfl⟩ := Nat.exists_eq_add_of_lt hgt
  have hd : d + 1 < 2 ^ f.fracBits := by
    have := f.infMag_add
    omega
  have hexp : (f.infMag + d + 1) / 2 ^ f.fracBits = 2 ^ f.expBits - 1 := by
    rw [FloatFmt.infMag, Nat.add_assoc, Nat.add_comm, Nat.add_mul_div_right _ _ (Nat.two_pow_pos _),
      Nat.div_eq_of_lt hd, Nat.zero_add]
  have hfrac : (f.infMag + d + 1) % 2 ^ f.fracBits = d + 1 := by
    rw [FloatFmt.infMag, Nat.add_assoc, Nat.add_comm, Nat.add_mul_mod_self_right,
      Nat.mod_eq_of_lt hd]
  simp [unpack, expField_withSign neg h, fracField_withSign neg h, hexp, hfrac]

/-- A magnitude below the pattern of the infinity stands for a finite value, subnormal or normal. -/
theorem unpack_withSign_of_lt (hlt : mag < f.infMag) :
    unpack f (withSign f neg mag) =
      if mag / 2 ^ f.fracBits = 0 then .fin neg (mag % 2 ^ f.fracBits) f.minExp
      else .fin neg (mag % 2 ^ f.fracBits + 2 ^ f.fracBits)
        (f.minExp + (mag / 2 ^ f.fracBits - 1 : Nat)) := by
  have h := hlt.trans f.infMag_lt
  have hexp : mag / 2 ^ f.fracBits ≠ 2 ^ f.expBits - 1 := by
    have : mag / 2 ^ f.fracBits < 2 ^ f.expBits - 1 := by
      rwa [Nat.div_lt_iff_lt_mul (Nat.two_pow_pos _)]
    omega
  rw [unpack, expField_withSign neg h, fracField_withSign neg h, signBit_withSign neg h,
    if_neg hexp]

end

/-! ### The real value of a finite pattern -/

/-- The factor `(-1)^neg`. -/
def sign (neg : Bool) : Rat := if neg then -1 else 1

@[simp] theorem abs_sign (neg : Bool) : |sign neg| = 1 := by
  cases neg <;> simp [sign]

@[simp] theorem sign_mul_self (neg : Bool) : sign neg * sign neg = 1 := by
  cases neg <;> simp [sign]

theorem sign_not (neg : Bool) : sign (!neg) = -sign neg := by
  cases neg <;> simp [sign]

theorem sign_xor (s t : Bool) : sign (s ^^ t) = sign s * sign t := by
  cases s <;> cases t <;> simp [sign]

theorem isFinite_iff {f : FloatFmt} {x : F64} :
    isFinite f x = true ↔ ∃ s m e, unpack f x = .fin s m e := by
  unfold isFinite
  cases h : unpack f x <;> simp

theorem real_of_unpack {f : FloatFmt} {x : F64} {s : Bool} {m : Nat} {e : Int}
    (h : unpack f x = .fin s m e) : real f x = sign s * m * 2 ^ e := by
  simp [real, h, sign]

/-- The significand of a finite pattern has one bit more than the fraction field, and its exponent
is not below that of the subnormals. -/
theorem unpack_fin_bounds {f : FloatFmt} {x : F64} {s : Bool} {m : Nat} {e : Int}
    (h : unpack f x = .fin s m e) : m < 2 ^ (f.fracBits + 1) ∧ f.minExp ≤ e := by
  have hfrac : fracField f x < 2 ^ f.fracBits := Nat.mod_lt _ (Nat.two_pow_pos _)
  rw [pow_succ]
  unfold unpack at h
  split at h
  · split at h <;> cases h
  · split at h <;> cases h
    · exact ⟨by omega, le_rfl⟩
    · exact ⟨by omega, by omega⟩

/-- `signedAt` is the value in units of `2^q`. -/
theorem signedAt_mul_two_zpow (s : Bool) (m : Nat) {e q : Int} (h : q ≤ e) :
    (signedAt s m e q : Rat) * 2 ^ q = sign s * m * 2 ^ e := by
  have hpow : (2 : Rat) ^ (e - q).toNat * 2 ^ q = 2 ^ e := by
    rw [← zpow_natCast, Int.toNat_of_nonneg (by omega), ← zpow_add₀ two_ne_zero, sub_add_cancel]
  unfold signedAt
  push_cast
  rw [← sign, ← hpow]
  ring

/-! ### The comparisons -/

/-- On finite operands `compare` is the comparison of the real values. -/
theorem compare_of_finite {f : FloatFmt} {x y : F64} (hx : isFinite f x = true)
    (hy : isFinite f y = true) : compare f x y = some (Ord.compare (real f x) (real f y)) := by
  obtain ⟨s, m, e, hx⟩ := isFinite_iff.mp hx
  obtain ⟨t, n, d, hy⟩ := isFinite_iff.mp hy
  have hpos : (0 : Rat) < 2 ^ min e d := by positivity
  rw [real_of_unpack hx, real_of_unpack hy, ← signedAt_mul_two_zpow s m (min_le_left e d),
    ← signedAt_mul_two_zpow t n (min_le_right e d)]
  simp only [compare, hx, hy, Option.some.injEq]
  generalize signedAt s m e (min e d) = a
  generalize signedAt t n d (min e d) = b
  rcases lt_trichotomy a b with h | rfl | h
  · rw [compare_lt_iff_lt.mpr h, eq_comm, compare_lt_iff_lt]
    exact mul_lt_mul_of_pos_right (by exact_mod_cast h) hpos
  · rw [compare_eq_iff_eq.mpr rfl, compare_eq_iff_eq.mpr rfl]
  · rw [compare_gt_iff_gt.mpr h, eq_comm, compare_gt_iff_gt]
    exact mul_lt_mul_of_pos_right (by exact_mod_cast h) hpos

/-- A comparison with a NaN has no answer. -/
theorem compare_of_nan {f : FloatFmt} {x y : F64} (h : isNaN f x = true ∨ isNaN f y = true) :
    compare f x y = none := by
  unfold isNaN at h
  unfold compare
  rcases h with h | h <;> rw [eq_of_beq h]
  cases unpack f x <;> rfl

/-- An infinity on the left of a finite operand decides the comparison by its sign. -/
theorem compare_infinity_left {f : FloatFmt} {x : F64} (neg : Bool) (hx : isFinite f x = true) :
    compare f (infinity f neg) x = some (if neg then .lt else .gt) := by
  obtain ⟨s, m, e, hx⟩ := isFinite_iff.mp hx
  simp [compare, hx, unpack_infinity]

/-- An infinity on the right of a finite operand decides the comparison by its sign. -/
theorem compare_infinity_right {f : FloatFmt} {x : F64} (neg : Bool) (hx : isFinite f x = true) :
    compare f x (infinity f neg) = some (if neg then .gt else .lt) := by
  obtain ⟨s, m, e, hx⟩ := isFinite_iff.mp hx
  simp [compare, hx, unpack_infinity]

/-- Two infinities compare by their signs. -/
theorem compare_infinity_infinity (f : FloatFmt) (s t : Bool) :
    compare f (infinity f s) (infinity f t) =
      some (if s = t then .eq else if s then .lt else .gt) := by
  simp [compare, unpack_infinity]

section
variable {f : FloatFmt} {x y : F64} (hx : isFinite f x = true) (hy : isFinite f y = true)
include hx hy

theorem gt_iff_real : gt f x y = true ↔ real f y < real f x := by
  simp [gt, compare_of_finite hx hy, compare_gt_iff_gt]

theorem ge_iff_real : ge f x y = true ↔ real f y ≤ real f x := by
  rw [le_iff_lt_or_eq, eq_comm (a := real f y)]
  simp [ge, compare_of_finite hx hy, compare_gt_iff_gt]

theorem le_iff_real : le f x y = true ↔ real f x ≤ real f y := ge_iff_real hy hx

theorem eq_iff_real : eq f x y = true ↔ real f x = real f y := by
  simp [eq, compare_of_finite hx hy]

end

/-- The two zeros are equal. -/
theorem eq_zero_posZero (f : FloatFmt) : eq f (zero f true) posZero = true := by
  cases f <;> decide

/-- Settles O23: each comparison reads off `compare`, which is the order of the real values on
finite operands, no answer with a NaN, and the order of the signs with an infinity. -/
theorem comparisonsFollowTheRealValues : Obligations.ComparisonsFollowTheRealValues := by
  refine ⟨fun f x y hx hy => ⟨gt_iff_real hx hy, ge_iff_real hx hy, le_iff_real hx hy,
    eq_iff_real hx hy⟩, fun f x y h => ?_, eq_zero_posZero, fun f x hx => ?_, fun f => ?_⟩
  · have hxy := compare_of_nan h
    have hyx := compare_of_nan h.symm
    simp [gt, ge, le, eq, hxy, hyx]
  · simp [gt, eq, compare_infinity_left _ hx, compare_infinity_right _ hx]
  · simp [gt, eq, compare_infinity_infinity]

end Float64
end Sys2Proof
end

section
/-! PROOFS. Rounding to nearest, ties to even (R10): rounding to an integer. -/

namespace Sys2Proof.Float64

/-! ### Integers -/

/-- `R` is an integer nearest to `x`, the even one of two. -/
def NearestEven (x : Rat) (R : Nat) : Prop :=
  |(R : Rat) - x| ≤ 1 / 2 ∧ (|(R : Rat) - x| = 1 / 2 → R % 2 = 0)

/-- Every other integer is at least half away. -/
theorem NearestEven.half_le_of_ne {x : Rat} {R : Nat} (h : NearestEven x R) {Z : Int}
    (hne : Z ≠ R) : 1 / 2 ≤ |(Z : Rat) - x| := by
  have hone : (1 : Rat) ≤ |(Z : Rat) - R| := by
    exact_mod_cast Int.one_le_abs (sub_ne_zero.mpr hne)
  have htri := abs_sub_le (Z : Rat) x R
  rw [abs_sub_comm x] at htri
  linarith [h.1]

theorem NearestEven.dist_le {x : Rat} {R : Nat} (h : NearestEven x R) (Z : Int) :
    |(R : Rat) - x| ≤ |(Z : Rat) - x| := by
  by_cases hne : Z = R
  · simp [hne]
  · exact h.1.trans (h.half_le_of_ne hne)

theorem NearestEven.even_of_tie {x : Rat} {R : Nat} (h : NearestEven x R) {Z : Int}
    (htie : |(R : Rat) - x| = |(Z : Rat) - x|) (hne : Z ≠ R) : R % 2 = 0 :=
  h.2 (le_antisymm h.1 (htie ▸ h.half_le_of_ne hne))

/-- Rounding does not cross an integer above. -/
theorem NearestEven.le_of_lt {x : Rat} {R N : Nat} (h : NearestEven x R) (hx : x < N) : R ≤ N := by
  have hlt : (R : Rat) < N + 1 := by linarith [(abs_le.mp h.1).2]
  exact Nat.lt_succ_iff.mp (by exact_mod_cast hlt)

/-- Rounding does not cross an integer below. -/
theorem NearestEven.le_of_le {x : Rat} {R N : Nat} (h : NearestEven x R) (hx : N ≤ x) : N ≤ R := by
  have hlt : (N : Rat) < R + 1 := by linarith [(abs_le.mp h.1).1]
  exact Nat.lt_succ_iff.mp (by exact_mod_cast hlt)

/-- Below the middle under an integer, rounding stays below it. -/
theorem NearestEven.lt_of_lt_half {x : Rat} {R N : Nat} (h : NearestEven x R)
    (hx : x < N - 1 / 2) : R < N := by
  have hlt : (R : Rat) < N := by linarith [(abs_le.mp h.1).2]
  exact_mod_cast hlt

/-- From the middle under an even integer on, rounding reaches it. -/
theorem NearestEven.le_of_half_le {x : Rat} {R N : Nat} (h : NearestEven x R) (heven : N % 2 = 0)
    (hx : (N : Rat) - 1 / 2 ≤ x) : N ≤ R := by
  have hbound := (abs_le.mp h.1).1
  have hle : (N : Rat) ≤ R + 1 := by linarith
  have hle : N ≤ R + 1 := by exact_mod_cast hle
  by_contra! hlt
  have hR : N = R + 1 := by omega
  have htie : |(R : Rat) - x| = 1 / 2 := by
    refine le_antisymm h.1 ?_
    rw [hR] at hx
    push_cast at hx
    rw [abs_sub_comm]
    exact le_trans (by linarith) (le_abs_self _)
  have := h.2 htie
  omega

/-- An integer is the nearest to itself. -/
theorem nearestEven_self (R : Nat) : NearestEven R R := by
  simp [NearestEven]

/-- Less than half away on either side is the nearest, with no tie. -/
theorem nearestEven_of_lt_half {x : Rat} {R : Nat} (hlow : R - 1 / 2 < x) (hhigh : x < R + 1 / 2) :
    NearestEven x R := by
  have hdist : |(R : Rat) - x| < 1 / 2 := by
    rw [abs_lt]
    constructor <;> linarith
  exact ⟨hdist.le, fun htie => absurd htie hdist.ne⟩

/-- In the middle between `q` and `q + 1` the even one is taken. -/
theorem nearestEven_of_middle {x : Rat} {q : Nat} (hx : x = q + 1 / 2) :
    NearestEven x (q + q % 2) := by
  refine ⟨?_, fun _ => by omega⟩
  rw [hx]
  obtain hq | hq := Nat.mod_two_eq_zero_or_one q <;> rw [hq] <;> push_cast <;> norm_num

/-- The natural `M` holds what rounding by `k` places needs of the value `y`: it is `y`, or it is
odd and `y` lies strictly between its neighbours, so that no even integer separates `M` from `y`. -/
def Holds (k : Nat) (y : Rat) (M : Nat) : Prop :=
  y = M ∨ 2 ≤ k ∧ M % 2 = 1 ∧ |y - M| < 1

section
variable {k : Nat} {y : Rat} {M N : Nat} (h : Holds k y M)
include h

theorem Holds.lt_of_lt (hlt : M < N) : y < N := by
  have hsucc : (M : Rat) + 1 ≤ N := by exact_mod_cast hlt
  obtain rfl | ⟨_, _, habs⟩ := h
  · linarith
  · linarith [(abs_lt.mp habs).2]

theorem Holds.gt_of_gt (hgt : N < M) : (N : Rat) < y := by
  have hsucc : (N : Rat) + 1 ≤ M := by exact_mod_cast hgt
  obtain rfl | ⟨_, _, habs⟩ := h
  · linarith
  · linarith [(abs_lt.mp habs).1]

theorem Holds.ge_of_ge (heven : N % 2 = 0) (hge : N ≤ M) : (N : Rat) ≤ y := by
  obtain hlt | rfl := hge.lt_or_eq
  · exact (h.gt_of_gt hlt).le
  · obtain hy | ⟨_, hodd, _⟩ := h
    · exact hy.ge
    · omega

theorem Holds.lt_two_pow_log2 : y < 2 ^ (Nat.log2 M + 1) := by
  have hlt := h.lt_of_lt Nat.lt_log2_self
  push_cast at hlt
  exact hlt

theorem Holds.two_pow_log2_le (hM : 0 < M) (hlog : k ≤ Nat.log2 M) : 2 ^ Nat.log2 M ≤ y := by
  have hle := Nat.log2_self_le hM.ne'
  have hexact : y = M ∨ Nat.log2 M ≠ 0 := by
    obtain hexact | ⟨hk, _⟩ := h
    · exact .inl hexact
    · exact .inr (by omega)
  obtain rfl | hpos := hexact
  · exact_mod_cast hle
  · exact_mod_cast h.ge_of_ge (Nat.mod_eq_zero_of_dvd (dvd_pow_self 2 hpos)) hle

/-- `roundShift` rounds `y / 2^k` to the nearest integer, ties to even. -/
theorem nearestEven_roundShift : NearestEven (y / 2 ^ k) (roundShift M k) := by
  cases k with
  | zero =>
    obtain rfl | ⟨hk, _⟩ := h
    · simp [roundShift, NearestEven, Nat.mod_one]
    · omega
  | succ k =>
    obtain ⟨H, hH⟩ : ∃ H, H = 2 ^ k := ⟨_, rfl⟩
    have hpos : 0 < H := hH ▸ Nat.two_pow_pos k
    have hposRat : (0 : Rat) < H := by exact_mod_cast hpos
    have hpow : 2 ^ (k + 1) = 2 * H := by rw [pow_succ, hH, Nat.mul_comm]
    have hpowRat : (2 : Rat) ^ (k + 1) = 2 * H := by exact_mod_cast hpow
    have hdiv := Nat.div_add_mod M (2 * H)
    have hmod := Nat.mod_lt M (show 0 < 2 * H by omega)
    simp only [roundShift, hpow, hpowRat]
    generalize M / (2 * H) = q at *
    generalize M % (2 * H) = r at *
    have hmul : (2 * H * q) % 2 = 0 := by rw [Nat.mul_assoc, Nat.mul_mod_right]
    have hunit : (0 : Rat) < 2 * H := by positivity
    split_ifs with hbelow habove
    · have hlow := h.ge_of_ge hmul (by omega)
      have hhigh := h.lt_of_lt (N := 2 * H * q + H) (by omega)
      push_cast at hlow hhigh
      have hfloor : (q : Rat) ≤ y / (2 * H) := by rw [le_div_iff₀ hunit]; linarith
      have hhalf : y / (2 * H) < q + 1 / 2 := by rw [div_lt_iff₀ hunit]; linarith
      exact nearestEven_of_lt_half (by linarith) hhalf
    · have hlow := h.gt_of_gt (N := 2 * H * q + H) (by omega)
      have hhigh := h.lt_of_lt (N := 2 * H * q + 2 * H) (by omega)
      push_cast at hlow hhigh
      have hhalf : q + 1 / 2 < y / (2 * H) := by rw [lt_div_iff₀ hunit]; linarith
      have hceil : y / (2 * H) < q + 1 := by rw [div_lt_iff₀ hunit]; linarith
      exact nearestEven_of_lt_half (by push_cast; linarith) (by push_cast; linarith)
    · obtain rfl | ⟨hk, hodd, _⟩ := h
      · refine nearestEven_of_middle ?_
        rw [div_eq_iff hunit.ne', show M = 2 * H * q + H by omega]
        push_cast
        ring
      · have hH2 : 2 ∣ H := hH ▸ dvd_pow_self 2 (by omega)
        omega

end

/-- `roundTo` rounds `y · 2^e` in units of `2^q`. -/
theorem nearestEven_roundTo {y : Rat} {M : Nat} {e q : Int} (h : Holds (q - e).toNat y M) :
    NearestEven (y * 2 ^ (e - q)) (roundTo M e q) := by
  unfold roundTo
  split_ifs with hq
  · obtain rfl | ⟨hk, _⟩ := h
    · have hexact := nearestEven_self (M * 2 ^ (e - q).toNat)
      rwa [Nat.cast_mul, Nat.cast_pow, Nat.cast_ofNat, ← zpow_natCast,
        Int.toNat_of_nonneg (by omega)] at hexact
    · omega
  · have hk : e - q = -((q - e).toNat : Int) := by omega
    rw [hk, zpow_neg, zpow_natCast, ← div_eq_mul_inv]
    exact nearestEven_roundShift h

end Sys2Proof.Float64
end

section
/-! PROOFS. Rounding to nearest, ties to even (R10): a value rounded at its place of the format is
rounded to the format. -/

namespace Sys2Proof.Float64

open Sys2Proof.Machine

/-! ### The places of a format -/

/-- The number of the last place that the largest finite values have, counted from the subnormals'
as 0. -/
def topPlace (f : FloatFmt) : Nat := 2 ^ f.expBits - 3

theorem infMag_eq (f : FloatFmt) : f.infMag = (topPlace f + 2) * 2 ^ f.fracBits := by
  cases f <;> rfl

theorem minExp_add_topPlace (f : FloatFmt) :
    f.minExp + topPlace f = ((2 ^ (f.expBits - 1) - 1 : Nat) : Int) - f.fracBits := by
  cases f <;> rfl

/-- The overflow bound in units of the last place of the largest finite values. -/
theorem overflowBound_eq (f : FloatFmt) :
    overflowBound f = (2 ^ (f.fracBits + 1) - 1 / 2) * 2 ^ (f.minExp + topPlace f) := by
  rw [minExp_add_topPlace, zpow_sub₀ two_ne_zero, zpow_natCast, zpow_natCast, overflowBound,
    pow_succ]
  field_simp

theorem overflowBound_pos (f : FloatFmt) : 0 < overflowBound f := by
  have hone : (1 : Rat) ≤ 2 ^ (f.fracBits + 1) := one_le_pow₀ one_le_two
  rw [overflowBound_eq]
  exact mul_pos (by linarith) (by positivity)

/-- Each place is worth at least twice a lower one. -/
theorem two_mul_two_zpow_le {a b : Int} (h : a < b) : (2 : Rat) * 2 ^ a ≤ 2 ^ b := by
  rw [← zpow_one_add₀ two_ne_zero]
  exact zpow_le_zpow_right₀ one_le_two (by omega)

/-- A magnitude with exponent field 0 stands for its fraction at the lowest place. -/
theorem unpack_subnormal {f : FloatFmt} {R : Nat} (neg : Bool) (hR : R < 2 ^ f.fracBits)
    (hlt : R < f.infMag) : unpack f (withSign f neg R) = .fin neg R f.minExp := by
  rw [unpack_withSign_of_lt neg hlt, if_pos (Nat.div_eq_of_lt hR), Nat.mod_eq_of_lt hR]

/-- A magnitude with exponent field `E + 1` stands for its fraction and the hidden bit at place `E`.
-/
theorem unpack_normal {f : FloatFmt} {E frac : Nat} (neg : Bool) (hfrac : frac < 2 ^ f.fracBits)
    (hlt : (E + 1) * 2 ^ f.fracBits + frac < f.infMag) :
    unpack f (withSign f neg ((E + 1) * 2 ^ f.fracBits + frac)) =
      .fin neg (frac + 2 ^ f.fracBits) (f.minExp + E) := by
  have hdiv : ((E + 1) * 2 ^ f.fracBits + frac) / 2 ^ f.fracBits = E + 1 := by
    rw [Nat.add_comm, Nat.add_mul_div_right _ _ (Nat.two_pow_pos _), Nat.div_eq_of_lt hfrac,
      Nat.zero_add]
  have hmod : ((E + 1) * 2 ^ f.fracBits + frac) % 2 ^ f.fracBits = frac := by
    rw [Nat.add_comm, Nat.add_mul_mod_self_right, Nat.mod_eq_of_lt hfrac]
  rw [unpack_withSign_of_lt neg hlt, hdiv, hmod, if_neg (Nat.succ_ne_zero E), Nat.add_sub_cancel]

/-- `x`, in units of the last place number `E`, is rounded to `R` there, and that is the place of
the format for it: `x` has no more than the format's bits, and has all of them unless the place is
that of the subnormals. -/
structure RoundedAt (f : FloatFmt) (E : Nat) (x : Rat) (R : Nat) : Prop where
  nearest : NearestEven x R
  high : x < 2 ^ (f.fracBits + 1)
  low : E = 0 ∨ 2 ^ f.fracBits ≤ x

section
variable {f : FloatFmt} {E R : Nat} {x : Rat} (h : RoundedAt f E x R)
include h

/-- Rounding up may give one more bit, which is the next power of two. -/
theorem RoundedAt.result_le : R ≤ 2 ^ (f.fracBits + 1) :=
  h.nearest.le_of_lt (by exact_mod_cast h.high)

theorem RoundedAt.le_result : E = 0 ∨ 2 ^ f.fracBits ≤ R :=
  h.low.imp_right fun hlow => h.nearest.le_of_le (by exact_mod_cast hlow)

/-- Below the top place both the pattern and the value are in range. -/
theorem RoundedAt.in_range_of_lt (hlt : E < topPlace f) :
    E * 2 ^ f.fracBits + R < f.infMag ∧ x * 2 ^ (f.minExp + E) < overflowBound f := by
  have hR := h.result_le
  have hx := h.high
  have hone : (1 : Rat) ≤ 2 ^ f.fracBits := one_le_pow₀ one_le_two
  rw [pow_succ] at hR hx
  constructor
  · have hP := Nat.two_pow_pos f.fracBits
    calc E * 2 ^ f.fracBits + R
        ≤ (E + 2) * 2 ^ f.fracBits := by rw [Nat.add_mul]; omega
      _ < (topPlace f + 2) * 2 ^ f.fracBits := by gcongr
      _ = f.infMag := (infMag_eq f).symm
  · calc x * 2 ^ (f.minExp + E)
        < 2 ^ f.fracBits * 2 * 2 ^ (f.minExp + E) := by gcongr
      _ = 2 ^ f.fracBits * (2 * 2 ^ (f.minExp + E)) := by rw [mul_assoc]
      _ ≤ (2 ^ (f.fracBits + 1) - 1 / 2) * 2 ^ (f.minExp + topPlace f) := by
          have hsig : (2 : Rat) ^ f.fracBits ≤ 2 ^ (f.fracBits + 1) - 1 / 2 := by
            rw [pow_succ]
            linarith
          exact mul_le_mul hsig (two_mul_two_zpow_le (by omega)) (by positivity) (by linarith)
      _ = overflowBound f := (overflowBound_eq f).symm

/-- Above the top place both are out of range. -/
theorem RoundedAt.out_of_range_of_gt (hgt : topPlace f < E) :
    f.infMag ≤ E * 2 ^ f.fracBits + R ∧ overflowBound f ≤ x * 2 ^ (f.minExp + E) := by
  have hR := h.le_result.resolve_left (by omega)
  have hx := h.low.resolve_left (by omega)
  constructor
  · calc f.infMag
        = (topPlace f + 1) * 2 ^ f.fracBits + 2 ^ f.fracBits := by rw [infMag_eq]; ring
      _ ≤ E * 2 ^ f.fracBits + R := by gcongr; omega
  · calc overflowBound f
        = (2 ^ (f.fracBits + 1) - 1 / 2) * 2 ^ (f.minExp + topPlace f) := overflowBound_eq f
      _ ≤ 2 ^ (f.fracBits + 1) * 2 ^ (f.minExp + topPlace f) := by
          gcongr
          linarith
      _ = 2 ^ f.fracBits * (2 * 2 ^ (f.minExp + topPlace f)) := by rw [pow_succ, mul_assoc]
      _ ≤ x * 2 ^ (f.minExp + E) :=
          mul_le_mul hx (two_mul_two_zpow_le (by omega)) (by positivity)
            (le_trans (by positivity) hx)

/-- At the top place the pattern reaches that of the infinity when rounding carries into the next
power of two, which it does from half a place below that power on. -/
theorem RoundedAt.in_range_iff_of_eq (heq : E = topPlace f) :
    E * 2 ^ f.fracBits + R < f.infMag ↔ x * 2 ^ (f.minExp + E) < overflowBound f := by
  have hunit : (0 : Rat) < 2 ^ (f.minExp + topPlace f) := by positivity
  have hcarry : topPlace f * 2 ^ f.fracBits + R < (topPlace f + 2) * 2 ^ f.fracBits ↔
      R < 2 ^ (f.fracBits + 1) := by
    rw [pow_succ, Nat.add_mul]
    omega
  rw [heq, infMag_eq, overflowBound_eq, mul_lt_mul_iff_left₀ hunit, hcarry]
  refine ⟨fun hlt => ?_, fun hlt => h.nearest.lt_of_lt_half (by exact_mod_cast hlt)⟩
  by_contra! hge
  have heven : 2 ^ (f.fracBits + 1) % 2 = 0 := by rw [pow_succ, Nat.mul_mod_left]
  exact absurd (h.nearest.le_of_half_le heven (by exact_mod_cast hge)) (by omega)

/-- The pattern stays below that of the infinity exactly when the value stays below the overflow
bound. -/
theorem RoundedAt.lt_infMag_iff :
    E * 2 ^ f.fracBits + R < f.infMag ↔ x * 2 ^ (f.minExp + E) < overflowBound f := by
  obtain hlt | heq | hgt := lt_trichotomy E (topPlace f)
  · obtain ⟨hmag, hvalue⟩ := h.in_range_of_lt hlt
    exact iff_of_true hmag hvalue
  · exact h.in_range_iff_of_eq heq
  · obtain ⟨hmag, hvalue⟩ := h.out_of_range_of_gt hgt
    exact iff_of_false hmag.not_gt hvalue.not_gt

/-- The pattern built from the place and the rounded significand stands for their value. -/
theorem RoundedAt.unpack_value (neg : Bool) (hlt : E * 2 ^ f.fracBits + R < f.infMag) :
    isFinite f (withSign f neg (E * 2 ^ f.fracBits + R)) = true ∧
    real f (withSign f neg (E * 2 ^ f.fracBits + R)) = sign neg * (R * 2 ^ (f.minExp + E)) := by
  have hunpack : ∃ m : Nat, ∃ e : Int,
      unpack f (withSign f neg (E * 2 ^ f.fracBits + R)) = .fin neg m e ∧
      (m : Rat) * 2 ^ e = R * 2 ^ (f.minExp + E) := by
    obtain hsub | hge := lt_or_ge R (2 ^ f.fracBits)
    · obtain rfl : E = 0 := h.le_result.resolve_right (by omega)
      rw [Nat.zero_mul, Nat.zero_add] at hlt ⊢
      exact ⟨R, f.minExp, unpack_subnormal neg hsub hlt, by simp⟩
    · obtain ⟨d, rfl⟩ := Nat.exists_eq_add_of_le hge
      have hd : d ≤ 2 ^ f.fracBits := by
        have := h.result_le
        rw [pow_succ] at this
        omega
      obtain hd | rfl := hd.lt_or_eq
      · have hmag : E * 2 ^ f.fracBits + (2 ^ f.fracBits + d) =
            (E + 1) * 2 ^ f.fracBits + d := by ring
        rw [hmag] at hlt ⊢
        exact ⟨_, _, unpack_normal neg hd hlt, by push_cast; ring⟩
      · have hmag : E * 2 ^ f.fracBits + (2 ^ f.fracBits + 2 ^ f.fracBits) =
            (E + 1 + 1) * 2 ^ f.fracBits + 0 := by ring
        rw [hmag] at hlt ⊢
        refine ⟨_, _, unpack_normal neg (Nat.two_pow_pos _) hlt, ?_⟩
        rw [Nat.cast_add_one, ← add_assoc, zpow_add_one₀ two_ne_zero]
        push_cast
        ring
  obtain ⟨m, e, hunpack, hvalue⟩ := hunpack
  exact ⟨isFinite_iff.mpr ⟨_, _, _, hunpack⟩, by rw [real_of_unpack hunpack, mul_assoc, hvalue]⟩

end

/-! ### The nearest finite value -/

/-- In units of a place of the format, a finite value is an integer or lies below the values that
have all bits at that place. -/
theorem integer_or_small {f : FloatFmt} {z : F64} (hz : isFinite f z = true) (neg : Bool)
    (E : Nat) :
    (∃ Z : Int, sign neg * real f z = Z * 2 ^ (f.minExp + E)) ∨
    E ≠ 0 ∧ sign neg * real f z < 2 ^ f.fracBits * 2 ^ (f.minExp + E) := by
  obtain ⟨s, m, e, hz⟩ := isFinite_iff.mp hz
  obtain ⟨hm, he⟩ := unpack_fin_bounds hz
  rw [real_of_unpack hz]
  obtain hle | hlt := le_or_gt (f.minExp + E) e
  · refine .inl ⟨signedAt (neg ^^ s) m e (f.minExp + E), ?_⟩
    rw [signedAt_mul_two_zpow _ _ hle, sign_xor]
    ring
  · refine .inr ⟨by omega, ?_⟩
    have hsign : sign neg * sign s ≤ 1 := by
      rw [← sign_xor]
      exact (le_abs_self _).trans (abs_sign _).le
    calc sign neg * (sign s * m * 2 ^ e)
        = sign neg * sign s * (m * 2 ^ e) := by ring
      _ ≤ 1 * (m * 2 ^ e) := by gcongr
      _ < 2 ^ (f.fracBits + 1) * 2 ^ e := by
          rw [one_mul]
          gcongr
          exact_mod_cast hm
      _ = 2 ^ f.fracBits * (2 * 2 ^ e) := by ring
      _ ≤ 2 ^ f.fracBits * 2 ^ (f.minExp + E) := by
          gcongr
          exact two_mul_two_zpow_le hlt

/-- The sign of a value of positive magnitude is its factor's. -/
theorem decide_sign_mul_neg (neg : Bool) {v : Rat} (hv : 0 < v) :
    decide (sign neg * v < 0) = neg := by
  cases neg <;> simp [sign, hv, hv.le]

/-- Distances are the same on both sides of zero. -/
theorem abs_sub_sign_mul (neg : Bool) (a v : Rat) : |a - sign neg * v| = |sign neg * a - v| := by
  have hfactor : sign neg * a - v = sign neg * (a - sign neg * v) := by
    rw [mul_sub, ← mul_assoc, sign_mul_self, one_mul]
  rw [hfactor, abs_mul, abs_sign, one_mul]

/-- No finite value is nearer than the rounded one, and a tie goes to the even pattern. -/
theorem RoundedAt.nearestTo {f : FloatFmt} {E R : Nat} {x : Rat} (h : RoundedAt f E x R)
    (neg : Bool) (hlt : E * 2 ^ f.fracBits + R < f.infMag) :
    nearestTo f (sign neg * (x * 2 ^ (f.minExp + E)))
      (withSign f neg (E * 2 ^ f.fracBits + R)) := by
  intro z hz
  have hu : (0 : Rat) < 2 ^ (f.minExp + E) := by positivity
  have hown : |real f (withSign f neg (E * 2 ^ f.fracBits + R)) -
      sign neg * (x * 2 ^ (f.minExp + E))| = |(R : Rat) - x| * 2 ^ (f.minExp + E) := by
    rw [(h.unpack_value neg hlt).2, ← mul_sub, abs_mul, abs_sign, one_mul, ← sub_mul, abs_mul,
      abs_of_pos hu]
  rw [hown, abs_sub_sign_mul]
  obtain ⟨Z, hZ⟩ | ⟨hE, hsmall⟩ := integer_or_small hz neg E
  · rw [hZ, ← sub_mul, abs_mul, abs_of_pos hu, mul_le_mul_iff_left₀ hu]
    refine ⟨h.nearest.dist_le Z, fun htie hne => ?_⟩
    have heven : R % 2 = 0 := by
      refine h.nearest.even_of_tie (mul_right_cancel₀ hu.ne' htie) fun hZR => hne ?_
      rw [(h.unpack_value neg hlt).2, ← one_mul (real f z), ← sign_mul_self neg, mul_assoc, hZ, hZR]
      simp
    rw [toNat_withSign_mod_two neg (hlt.trans f.infMag_lt)]
    have : 2 ∣ 2 ^ f.fracBits := dvd_pow_self 2 f.fracBits_pos.ne'
    have : 2 ∣ E * 2 ^ f.fracBits := this.mul_left E
    omega
  · have hlow := h.low.resolve_left hE
    have hnear : |(R : Rat) - x| ≤ x - 2 ^ f.fracBits := by
      have := h.nearest.dist_le (2 ^ f.fracBits)
      push_cast at this
      rwa [abs_sub_comm _ x, abs_sub_comm _ x, abs_of_nonneg (sub_nonneg.mpr hlow),
        abs_sub_comm x] at this
    have hfar : |(R : Rat) - x| * 2 ^ (f.minExp + E) <
        |sign neg * real f z - x * 2 ^ (f.minExp + E)| := by
      calc |(R : Rat) - x| * 2 ^ (f.minExp + E)
          ≤ (x - 2 ^ f.fracBits) * 2 ^ (f.minExp + E) := by gcongr
        _ < x * 2 ^ (f.minExp + E) - sign neg * real f z := by linarith
        _ ≤ _ := by
          rw [abs_sub_comm]
          exact le_abs_self _
    exact ⟨hfar.le, fun htie => absurd htie hfar.ne⟩

/-- A value rounded at its place is rounded to the format: to the nearest finite value below the
overflow bound, and to the infinity from the bound on. -/
theorem RoundedAt.roundsTo {f : FloatFmt} {E R : Nat} {x : Rat} (h : RoundedAt f E x R) (hx : 0 < x)
    (neg : Bool) :
    roundsTo f (sign neg * (x * 2 ^ (f.minExp + E)))
      (withSign f neg (min (E * 2 ^ f.fracBits + R) f.infMag)) := by
  have hv : 0 < x * 2 ^ (f.minExp + E) := by positivity
  have habs : |sign neg * (x * 2 ^ (f.minExp + E))| = x * 2 ^ (f.minExp + E) := by
    rw [abs_mul, abs_sign, one_mul, abs_of_pos hv]
  unfold Machine.roundsTo
  rw [habs]
  refine ⟨fun hbelow => ?_, fun hbeyond => ?_⟩
  · have hlt := h.lt_infMag_iff.mpr hbelow
    rw [min_eq_left hlt.le]
    exact ⟨(h.unpack_value neg hlt).1, h.nearestTo neg hlt⟩
  · have hge := mt h.lt_infMag_iff.mp (not_lt.mpr hbeyond)
    rw [min_eq_right (not_lt.mp hge), infinity, decide_sign_mul_neg neg hv]

end Sys2Proof.Float64
end

section
/-! PROOFS. Rounding to nearest, ties to even (R10): `round` and `roundQuotient`, and the
arithmetic, the conversion and the literals that end in them. -/

namespace Sys2Proof.Float64

open Sys2Proof.Machine

/-! ### The functions that round -/

/-- A zero of either sign is the rounded zero. -/
theorem roundsTo_zero (f : FloatFmt) (neg : Bool) : roundsTo f 0 (zero f neg) := by
  have hlt : 0 < f.infMag := by cases f <;> decide
  have hunpack := unpack_subnormal neg (Nat.two_pow_pos f.fracBits) hlt
  have hreal : real f (zero f neg) = 0 := by
    rw [zero, real_of_unpack hunpack]
    simp
  refine ⟨fun _ => ⟨isFinite_iff.mpr ⟨_, _, _, hunpack⟩, fun z _ => ?_⟩, fun hge => ?_⟩
  · rw [hreal]
    refine ⟨by simp, fun htie hne => absurd ?_ hne⟩
    have hz : real f z = 0 := by simpa using htie.symm
    exact hz.symm
  · rw [abs_zero] at hge
    exact absurd hge (not_le.mpr (overflowBound_pos f))

/-- `lastPlace` is the place of the format for a value that `M` holds. -/
theorem roundedAt_lastPlace {f : FloatFmt} {y : Rat} {M E : Nat} {e : Int} (hM : 0 < M)
    (hE : lastPlace f M e = f.minExp + E) (h : Holds (f.minExp + E - e).toNat y M) :
    RoundedAt f E (y * 2 ^ (e - (f.minExp + E))) (roundTo M e (f.minExp + E)) where
  nearest := nearestEven_roundTo h
  high := by
    have habove : e + Nat.log2 M - f.fracBits ≤ f.minExp + E := hE ▸ le_max_left _ _
    calc y * 2 ^ (e - (f.minExp + E))
        < 2 ^ (Nat.log2 M + 1) * 2 ^ (e - (f.minExp + E)) := by
          gcongr
          exact h.lt_two_pow_log2
      _ = 2 ^ ((Nat.log2 M + 1 : Nat) + (e - (f.minExp + E))) := by
          rw [zpow_add₀ two_ne_zero, zpow_natCast]
      _ ≤ 2 ^ ((f.fracBits + 1 : Nat) : Int) := zpow_le_zpow_right₀ one_le_two (by omega)
      _ = 2 ^ (f.fracBits + 1) := zpow_natCast _ _
  low := by
    have hplace : E = 0 ∨ f.minExp + E = e + Nat.log2 M - f.fracBits := by
      unfold lastPlace at hE
      omega
    refine hplace.imp_right fun hplace => ?_
    calc (2 : Rat) ^ f.fracBits
        = 2 ^ Nat.log2 M * 2 ^ (e - (f.minExp + E)) := by
          rw [← zpow_natCast, ← zpow_natCast, ← zpow_add₀ two_ne_zero]
          congr 1
          omega
      _ ≤ y * 2 ^ (e - (f.minExp + E)) := by
          gcongr
          exact h.two_pow_log2_le hM (by omega)

/-- `round` rounds the value `y · 2^e`, of which `M` holds what rounding at the last place needs. -/
theorem roundsTo_round {f : FloatFmt} {y : Rat} {M : Nat} {e : Int} (neg : Bool) (hM : 0 < M)
    (h : Holds (lastPlace f M e - e).toNat y M) :
    roundsTo f (sign neg * (y * 2 ^ e)) (round f neg M e) := by
  obtain ⟨E, hE⟩ : ∃ E : Nat, lastPlace f M e = f.minExp + E := by
    obtain ⟨E, hE⟩ := Int.le.dest (show f.minExp ≤ lastPlace f M e from le_max_right _ _)
    exact ⟨E, hE.symm⟩
  rw [hE] at h
  have hy : (0 : Rat) < y := by exact_mod_cast h.gt_of_gt hM
  have hvalue : y * 2 ^ (e - (f.minExp + E)) * 2 ^ (f.minExp + E) = y * 2 ^ e := by
    rw [mul_assoc, ← zpow_add₀ two_ne_zero, sub_add_cancel]
  have hrounds := (roundedAt_lastPlace hM hE h).roundsTo (by positivity) neg
  rw [hvalue] at hrounds
  rw [round, if_neg hM.ne', hE]
  simpa using hrounds

/-- `round` rounds `m · 2^e`. -/
theorem roundsTo_round_exact (f : FloatFmt) (neg : Bool) (m : Nat) (e : Int) :
    roundsTo f (sign neg * (m * 2 ^ e)) (round f neg m e) := by
  obtain rfl | hm := Nat.eq_zero_or_pos m
  · simpa [round] using roundsTo_zero f neg
  · exact roundsTo_round neg hm (.inl rfl)

/-- A quotient and one bit that says whether a remainder is left hold twice the exact quotient. -/
theorem holds_quotient {n d k : Nat} (hd : 0 < d) (hk : 2 ≤ k) :
    Holds k (2 * (n / d)) (2 * (n / d) + if n % d = 0 then 0 else 1) := by
  have hdRat : (0 : Rat) < d := by exact_mod_cast hd
  have hsplit : (n : Rat) / d = (n / d : Nat) + (n % d : Nat) / d := by
    rw [add_div' _ _ _ hdRat.ne', div_left_inj' hdRat.ne']
    exact_mod_cast (Nat.div_add_mod' n d).symm
  rw [hsplit]
  split_ifs with hr
  · left
    simp [hr]
  · refine .inr ⟨hk, by omega, ?_⟩
    have hlow : (0 : Rat) < (n % d : Nat) / d := by
      have : 0 < n % d := by omega
      positivity
    have hhigh : ((n % d : Nat) : Rat) / d < 1 := by
      rw [div_lt_one hdRat]
      exact_mod_cast Nat.mod_lt n hd
    push_cast at *
    rw [abs_lt]
    constructor <;> linarith

/-- The quotient that `roundQuotient` takes has two bits more than the format. -/
theorem two_pow_le_quotient {m d F : Nat} (hm : 0 < m) (hd : 0 < d) :
    2 ^ (F + 2) ≤ m * 2 ^ (F + 3 + Nat.log2 d) / d := by
  rw [Nat.le_div_iff_mul_le hd]
  calc 2 ^ (F + 2) * d
      ≤ 2 ^ (F + 2) * 2 ^ (Nat.log2 d + 1) := by
        gcongr
        exact Nat.lt_log2_self.le
    _ = 1 * 2 ^ (F + 3 + Nat.log2 d) := by rw [← pow_add, one_mul]; congr 1; omega
    _ ≤ m * 2 ^ (F + 3 + Nat.log2 d) := by gcongr; exact hm

/-- Rounding a significand with two bits more than the format drops at least two bits. -/
theorem two_le_dropped {f : FloatFmt} {M : Nat} (h : 2 ^ (f.fracBits + 2) ≤ M) (e : Int) :
    2 ≤ (lastPlace f M e - e).toNat := by
  have hpos := Nat.two_pow_pos (f.fracBits + 2)
  have hlog : f.fracBits + 2 ≤ Nat.log2 M := (Nat.le_log2 (by omega)).mpr h
  have hplace : e + Nat.log2 M - f.fracBits ≤ lastPlace f M e := le_max_left _ _
  omega

/-- `roundQuotient` rounds `(m / d) · 2^e` once. -/
theorem roundsTo_roundQuotient (f : FloatFmt) (neg : Bool) (m : Nat) {d : Nat} (e : Int)
    (hd : 0 < d) : roundsTo f (sign neg * (m / d * 2 ^ e)) (roundQuotient f neg m d e) := by
  obtain rfl | hm := Nat.eq_zero_or_pos m
  · simpa [roundQuotient, round] using roundsTo_zero f neg
  · have hquot := two_pow_le_quotient (F := f.fracBits) hm hd
    have hpos := Nat.two_pow_pos (f.fracBits + 2)
    simp only [roundQuotient]
    generalize f.fracBits + 3 + Nat.log2 d = k at *
    have hvalue : (m : Rat) / d * 2 ^ e = 2 * ((m * 2 ^ k : Nat) / d) * 2 ^ (e - k - 1) := by
      rw [zpow_sub_one₀ two_ne_zero, zpow_sub₀ two_ne_zero, zpow_natCast]
      push_cast
      field_simp
    rw [hvalue]
    exact roundsTo_round neg (by omega) (holds_quotient hd (two_le_dropped (by omega) _))

/-! ### Arithmetic, conversion and literals -/

/-- Flipping the sign bit flips the sign of a finite value. -/
theorem unpack_neg {f : FloatFmt} {x : F64} {s : Bool} {m : Nat} {e : Int}
    (h : unpack f x = .fin s m e) : unpack f (neg f x) = .fin (!s) m e := by
  have hsign : (2 ^ (f.width - 1)) % 2 ^ 64 = 2 ^ (f.expBits + f.fracBits) := by
    rw [f.width_eq, Nat.add_sub_cancel]
    exact Nat.mod_eq_of_lt (Nat.pow_lt_pow_right (by decide) f.width_le)
  have hexp : expField f (neg f x) = expField f x := by
    simp only [expField, neg, BitVec.toNat_xor, BitVec.toNat_ofNat, hsign]
    rw [Nat.xor_div_two_pow, Nat.xor_mod_two_pow, pow_add, Nat.mul_div_cancel _ (Nat.two_pow_pos _),
      Nat.mod_self, Nat.xor_zero]
  have hfrac : fracField f (neg f x) = fracField f x := by
    simp only [fracField, neg, BitVec.toNat_xor, BitVec.toNat_ofNat, hsign]
    rw [Nat.xor_mod_two_pow, pow_add, Nat.mul_mod_left, Nat.xor_zero]
  have hbit : signBit f (neg f x) = !signBit f x := by
    simp only [signBit, neg, BitVec.toNat_xor, BitVec.toNat_ofNat, hsign]
    simp [f.width_eq, Nat.testBit_xor]
  unfold unpack at h ⊢
  rw [hexp, hfrac, hbit]
  split_ifs at h ⊢ <;> cases h <;> rfl

/-- The negation of a finite value is finite. -/
theorem isFinite_neg {f : FloatFmt} {x : F64} (h : isFinite f x = true) :
    isFinite f (neg f x) = true := by
  obtain ⟨s, m, e, h⟩ := isFinite_iff.mp h
  exact isFinite_iff.mpr ⟨_, _, _, unpack_neg h⟩

theorem real_neg {f : FloatFmt} {x : F64} (h : isFinite f x = true) :
    real f (neg f x) = -real f x := by
  obtain ⟨s, m, e, h⟩ := isFinite_iff.mp h
  rw [real_of_unpack h, real_of_unpack (unpack_neg h), sign_not]
  ring

section
variable {f : FloatFmt} {x y : F64} (hx : isFinite f x = true) (hy : isFinite f y = true)
include hx hy

/-- The sum is exact in units of the lower of the two places, and rounded once. -/
theorem roundsTo_add : roundsTo f (real f x + real f y) (add f x y) := by
  obtain ⟨s, m, e, hx⟩ := isFinite_iff.mp hx
  obtain ⟨t, n, d, hy⟩ := isFinite_iff.mp hy
  rw [real_of_unpack hx, real_of_unpack hy, ← signedAt_mul_two_zpow s m (min_le_left e d),
    ← signedAt_mul_two_zpow t n (min_le_right e d), ← add_mul]
  simp only [add, hx, hy]
  rw [← Int.cast_add]
  generalize signedAt s m e (min e d) + signedAt t n d (min e d) = z
  split_ifs with hz
  · rw [hz, Int.cast_zero, zero_mul]
    exact roundsTo_zero f (s && t)
  · have habs : (z : Rat) = sign (decide (z < 0)) * (z.natAbs : Rat) := by
      rw [Nat.cast_natAbs]
      obtain hneg | hpos := lt_or_gt_of_ne hz
      · simp [sign, hneg, abs_of_neg]
      · simp [sign, hpos.not_gt, abs_of_pos hpos]
    rw [habs, mul_assoc]
    exact roundsTo_round_exact f _ _ _

/-- A difference is the sum with the negation. -/
theorem roundsTo_sub : roundsTo f (real f x - real f y) (sub f x y) := by
  rw [sub_eq_add_neg, ← real_neg hy]
  exact roundsTo_add hx (isFinite_neg hy)

theorem roundsTo_mul : roundsTo f (real f x * real f y) (mul f x y) := by
  obtain ⟨s, m, e, hx⟩ := isFinite_iff.mp hx
  obtain ⟨t, n, d, hy⟩ := isFinite_iff.mp hy
  have hvalue : sign s * m * 2 ^ e * (sign t * n * 2 ^ d) =
      sign (s ^^ t) * ((m * n : Nat) * 2 ^ (e + d)) := by
    rw [sign_xor, zpow_add₀ two_ne_zero]
    push_cast
    ring
  rw [real_of_unpack hx, real_of_unpack hy, hvalue]
  simp only [mul, hx, hy]
  exact roundsTo_round_exact f _ _ _

theorem roundsTo_div (hne : real f y ≠ 0) : roundsTo f (real f x / real f y) (div f x y) := by
  obtain ⟨s, m, e, hx⟩ := isFinite_iff.mp hx
  obtain ⟨t, n, d, hy⟩ := isFinite_iff.mp hy
  rw [real_of_unpack hy] at hne
  have hn : n ≠ 0 := by
    rintro rfl
    simp at hne
  have hvalue : sign s * m * 2 ^ e / (sign t * n * 2 ^ d) =
      sign (s ^^ t) * (m / n * 2 ^ (e - d)) := by
    have hnRat : (n : Rat) ≠ 0 := by exact_mod_cast hn
    rw [sign_xor, zpow_sub₀ two_ne_zero, div_eq_iff hne]
    field_simp
    rw [sq, sign_mul_self, mul_one]
  rw [real_of_unpack hx, real_of_unpack hy, hvalue]
  simp only [div, hx, hy, if_neg hn]
  exact roundsTo_roundQuotient f _ m _ (Nat.pos_of_ne_zero hn)

end

theorem roundsTo_ofNat (f : FloatFmt) (n : Nat) : roundsTo f n (ofNat f n) := by
  simpa [sign, ofNat] using roundsTo_round_exact f false n 0

theorem roundsTo_literal (f : FloatFmt) (neg : Bool) (num : Nat) {den : Nat} (h : den ≠ 0) :
    roundsTo f (sign neg * num / den) (literal f neg num den) := by
  simpa [mul_div_assoc, literal] using roundsTo_roundQuotient f neg num 0 (Nat.pos_of_ne_zero h)

/-- Settles O22: every operation rounds the exact value once, by `round` or by `roundQuotient`. -/
theorem arithmeticRoundsToNearestEven : Obligations.ArithmeticRoundsToNearestEven :=
  ⟨fun _ _ _ hx hy => ⟨roundsTo_add hx hy, roundsTo_sub hx hy, roundsTo_mul hx hy,
    roundsTo_div hx hy⟩, roundsTo_ofNat, fun f neg num _ h => roundsTo_literal f neg num h⟩

end Sys2Proof.Float64
end

section
/-! PROOFS. The command of a line of the assembler: its word, its operand ports, and the patterns of
its literals (R74, R75, R79). -/

namespace Sys2Proof.Float64

/-! ### What the rounding functions build fits the format -/

theorem fits_round (f : FloatFmt) (neg : Bool) (m : Nat) (e : Int) :
    fits f (round f neg m e) = true := by
  unfold round
  split_ifs
  · exact fits_withSign neg (Nat.two_pow_pos _)
  · exact fits_withSign neg ((min_le_right _ _).trans_lt f.infMag_lt)

theorem fits_literal (f : FloatFmt) (neg : Bool) (num den : Nat) :
    fits f (literal f neg num den) = true :=
  fits_round f neg _ _

theorem fits_infinity (f : FloatFmt) (neg : Bool) : fits f (infinity f neg) = true :=
  fits_withSign neg f.infMag_lt

/-- The quiet bit and any payload stay between the pattern of the infinity and the sign bit. -/
theorem nanMag_bounds (f : FloatFmt) (n : Nat) :
    f.infMag < f.infMag + 2 ^ (f.fracBits - 1) + n % 2 ^ (f.fracBits - 1) ∧
    f.infMag + 2 ^ (f.fracBits - 1) + n % 2 ^ (f.fracBits - 1) < 2 ^ (f.expBits + f.fracBits) := by
  have hpayload := Nat.mod_lt n (Nat.two_pow_pos (f.fracBits - 1))
  have hquiet : 2 ^ f.fracBits = 2 ^ (f.fracBits - 1) * 2 := by
    rw [← pow_succ, Nat.sub_add_cancel f.fracBits_pos]
  have := f.infMag_add
  omega

theorem fits_nanOf (f : FloatFmt) (x y : F64) : fits f (nanOf f x y) = true :=
  fits_withSign _ (nanMag_bounds f _).2

theorem isNaN_nanOf (f : FloatFmt) (x y : F64) : isNaN f (nanOf f x y) = true := by
  have hnan : unpack f (nanOf f x y) = .nan :=
    unpack_withSign_of_gt _ (nanMag_bounds f _).1 (nanMag_bounds f _).2
  rw [isNaN, hnan]
  rfl

end Sys2Proof.Float64

namespace Sys2Proof.Machine

/-- The word of an operation decodes to it. -/
theorem decode_encode (i : Instr) : decode (encode i) = .ok i := by
  cases i with
  | fwdEdge a => cases a <;> decide
  | bwdEdge a => cases a <;> decide
  | _ => decide

/-- The word of an operation decodes to it for each issuer the table allows. -/
theorem decodeFor_encode {i : Instr} {a : Issuer} (h : i.allowsIssuer a = true) :
    decodeFor a (encode i) = .ok i := by
  simp [decodeFor, decode_encode, h]

/-- A written value is a pattern of the format. -/
theorem F64Literal.fits_bits (f : FloatFmt) (x : F64Literal) :
    Float64.fits f (x.bits f) = true := by
  cases x with
  | decimal neg digits scale => exact Float64.fits_literal f neg digits (10 ^ scale)
  | infinite neg => exact Float64.fits_infinity f neg
  | nan => exact Float64.fits_nanOf f posZero posZero

/-- `LEN_IN` of a buffer goes with its bytes. -/
theorem lengthAgrees_bufferOperands (buf : List Byte) : (bufferOperands buf).lengthAgrees = true :=
  beq_self_eq_true buf.length

/-- The operand ports of a line go with its operation. -/
theorem AsmLine.operandsOk (f : FloatFmt) (l : AsmLine) :
    l.instr.operandsOk f (l.operands f) = true := by
  cases l with
  | start x h => exact (Bool.and_true _).trans (x.fits_bits f)
  | setOnWidth x => exact (Bool.and_true _).trans (x.fits_bits f)
  | waitFor x => exact (Bool.and_true _).trans (x.fits_bits f)
  | decodeHumidity b => exact lengthAgrees_bufferOperands b
  | decodeTemperatureC b => exact lengthAgrees_bufferOperands b
  | decodeAdc12 b => exact lengthAgrees_bufferOperands b
  | decodeAdc10 b => exact lengthAgrees_bufferOperands b
  | encodePixelFrame px => exact lengthAgrees_bufferOperands (pixelBytes px)
  | stop | fwdEdge | bwdEdge | now | frequency | runCycle => rfl

/-- Pixel `k` stands on the bytes `3k`, `3k + 1` and `3k + 2`. -/
theorem pixelBytes_getElem? {px : List Pixel} {k : Nat} {p : Pixel} (h : px[k]? = some p) :
    (pixelBytes px)[3 * k]? = some p.r ∧ (pixelBytes px)[3 * k + 1]? = some p.g ∧
    (pixelBytes px)[3 * k + 2]? = some p.b := by
  induction px generalizing k with
  | nil => simp at h
  | cons q rest ih =>
    cases k with
    | zero =>
      obtain rfl : q = p := by simpa using h
      exact ⟨rfl, rfl, rfl⟩
    | succ k => exact ih (k := k) (by simpa using h)

/-- Settles O4: the word by `decodeFor_encode`, the ports by the lines' operands, the literals by
the rounding of `roundQuotient`. -/
theorem assembledLineIsIssuable : Obligations.AssembledLineIsIssuable := by
  refine ⟨fun f a r l h => ⟨rfl, rfl, decodeFor_encode h, ?_⟩,
    fun f a r x h => ⟨rfl, rfl, rfl, rfl⟩, ?_,
    fun f a r px => ⟨pixelBytes_length px, pixelBytes_length px, fun k p hk => pixelBytes_getElem? hk⟩,
    fun f neg digits scale => ?_, fun f neg => ⟨Float64.isNaN_nanOf f posZero posZero, rfl⟩⟩
  · rw [Instr.wellFormed, h]
    exact l.operandsOk f
  · rintro f a r buf l (rfl | rfl | rfl | rfl) <;> exact ⟨rfl, rfl⟩
  · have hscale : (10 : Nat) ^ scale ≠ 0 := pow_ne_zero scale (by decide)
    have hrounds := Float64.roundsTo_literal f neg digits hscale
    rwa [Nat.cast_pow, Nat.cast_ofNat] at hrounds

end Sys2Proof.Machine
end

section
/-! PROOFS. What one step does to the registers, said once: the register writes of the
operations, and the words and agents they come from. -/

namespace Sys2Proof.Machine

/-! ### The registers alone -/

/-- The registers, the constants and the marks of the waits: the state with the ports, the
trace, the mark `REFUSED` and the agenda forgotten. -/
def State.registers (s : State) : State :=
  { s with res := {}, trace := [], refused := false, bus := idleBus, agenda := [], turn := 0 }

@[simp] theorem State.registers_present (s : State) (c : Command) :
    (s.present c).registers = s.registers := rfl
@[simp] theorem State.registers_record (s : State) (e : Event) :
    (s.record e).registers = s.registers := rfl
@[simp] theorem State.registers_refuse (s : State) : s.refuse.registers = s.registers := rfl
@[simp] theorem State.registers_drive (s : State) (r : ResultPorts) :
    (s.drive r).registers = s.registers := rfl
@[simp] theorem State.registers_readClock (s : State) : s.readClock.registers = s.registers := rfl
@[simp] theorem State.registers_recordCmd (s : State) (i : Instr) (r : ResultPorts)
    (o : Option OperandValue) : (s.recordCmd i r o).registers = s.registers := by
  unfold State.recordCmd; split <;> rfl
@[simp] theorem State.registers_complete (s : State) (i : Instr) (r : ResultPorts) :
    (s.complete i r).registers = s.registers := by
  simp [State.complete]
@[simp] theorem State.registers_raise (s : State) (i : Instr) (e : Status)
    (o : Option OperandValue) : (s.raise i e o).registers = s.registers := by
  simp [State.raise]
@[simp] theorem State.registers_takeMove (s : State) : s.takeMove.2.registers = s.registers := by
  obtain ⟨l, n, h⟩ := takeMove_snd s
  rw [h]
  rfl

/-- States with the same registers leave every register of 10_state.md alike. -/
theorem SameRegisters.of_registers_eq {s u : State} (h : u.registers = s.registers) :
    SameRegisters s u where
  cfg := (congrArg State.cfg h :)
  onWidth := (congrArg State.onWidth h :)
  period := (congrArg State.period h :)
  genState := (congrArg State.genState h :)
  stopReq := (congrArg State.stopReq h :)
  seqPh := (congrArg State.seqPh h :)
  wSnap := (congrArg State.wSnap h :)
  waitDur := (congrArg State.waitDur h :)
  waitT0 := (congrArg State.waitT0 h :)
  waitDelta := (congrArg State.waitDelta h :)
  pinBind := (congrArg State.pinBind h :)
  t := (congrArg State.t h :)
  pinLevel := (congrArg State.pinLevel h :)

/-! ### The codec -/

/-- The result ports a codec operation drives: a function of the constants and the operand ports. -/
def codecPorts (p : Params) (o : Operands) : Instr → ResultPorts
  | .decodeHumidity =>
    if o.lenIn ≠ 2 then raisePorts .invalidInput
    else okF64 (humidity p.floatFmt (rawSample16 o.bufIn)) .relativeHumidityPercent
  | .decodeTemperatureC =>
    if o.lenIn ≠ 2 then raisePorts .invalidInput
    else okF64 (temperatureC p.floatFmt (rawSample16 o.bufIn)) .celsius
  | .decodeAdc12 =>
    if o.lenIn ≠ 3 then raisePorts .invalidInput else okInt (adcSample 0x0F o.bufIn) .adcCount
  | .decodeAdc10 =>
    if o.lenIn ≠ 3 then raisePorts .invalidInput else okInt (adcSample 0x03 o.bufIn) .adcCount
  | .encodePixelFrame =>
    if o.lenIn % 3 ≠ 0 ∨ p.maxPixels < o.lenIn / 3 then raisePorts .invalidInput
    else okBytes (pixelFrame (o.lenIn / 3) o.bufIn)
  | _ => {}

/-- An operation that checks its length drives the ports of one of its two ends, and nothing
else but the trace. -/
theorem length_check_outcome (s : State) (i : Instr) (r : ResultPorts) (wrong : Prop)
    [Decidable wrong] :
    ∃ u, (if wrong then .next (s.wrongLength i) else .next (s.complete i r) :
        Host.Outcome State Fault Refusal) = .next u ∧
      u.res = (if wrong then raisePorts .invalidInput else r) ∧
      u.registers = s.registers ∧ u.refused = s.refused := by
  split
  · exact ⟨_, rfl, by simp [State.wrongLength]⟩
  · exact ⟨_, rfl, by simp⟩

/-- A codec operation drives its ports, and leaves the registers and the mark as they are. -/
theorem exec_codec {i : Instr} (h : i.readsBuffer = true) (s : State) :
    ∃ u, exec i s = .next u ∧ u.res = codecPorts s.cfg s.bus.operands i ∧
      u.registers = s.registers ∧ u.refused = s.refused := by
  cases i with
  | decodeHumidity => exact length_check_outcome ..
  | decodeTemperatureC => exact length_check_outcome ..
  | decodeAdc12 => exact length_check_outcome ..
  | decodeAdc10 => exact length_check_outcome ..
  | encodePixelFrame => exact length_check_outcome ..
  | _ => cases h

/-- Settles O59: the result ports are `codecPorts` of the constants and the command ports, and the
registers stay. -/
theorem codecIsStateless : Obligations.CodecIsStateless := by
  intro s v i hi hcfg hbus
  obtain ⟨s', hs, hres, hregs, hmark⟩ := exec_codec hi s
  obtain ⟨v', hv, hres', -, -⟩ := exec_codec hi v
  refine ⟨s', v', hs, hv, ?_, .of_registers_eq hregs, hmark⟩
  rw [hres, hres', hcfg, hbus]

/-! ### The register writes -/

/-- The register writes of the operations: an operation `i` that the command `c` carries takes the
registers `a` to other ones in one of these ways only. -/
inductive RegisterWrite (c : Command) (a : State) : Instr → State → Prop where
  /-- START without a writer (R120). -/
  | degrade (hrun : a.genState ≠ .running)
      (hperiod : periodAdmitted a.fmt c.operands.periodIn = true) :
      RegisterWrite c a .start
        { a with
          period := c.operands.periodIn, stopReq := false, pinBind := none, genState := .degraded }
  /-- START with the writer `h` (R120). -/
  | run (h : PinHandle) (hrun : a.genState ≠ .running)
      (hperiod : periodAdmitted a.fmt c.operands.periodIn = true) :
      RegisterWrite c a .start
        { a with
          period := c.operands.periodIn, stopReq := false, pinBind := some h
          seqPh := .cycStart, genState := .running }
  /-- STOP (R122). -/
  | requestStop (hrun : a.genState = .running) :
      RegisterWrite c a .stop { a with stopReq := true }
  /-- SET_ON_WIDTH and the edge operations (R124, R150, R151). -/
  | setpoint {i : Instr} {w : F64} (hvalue : setpointOf a.cfg c.operands i = some w) :
      RegisterWrite c a i (a.writeOnWidth w)
  /-- CYC_START with a stop request (R130). -/
  | endLoop (hrun : a.genState = .running) (hph : a.seqPh = .cycStart) (hstop : a.stopReq = true) :
      RegisterWrite c a .runCycle { a with stopReq := false, genState := .stopped }
  /-- CYC_START without one (R130). -/
  | snapshot (hrun : a.genState = .running) (hph : a.seqPh = .cycStart) :
      RegisterWrite c a .runCycle
        { a with
          wSnap := clamp a.fmt a.onWidth a.period
          seqPh := if Float64.eq a.fmt (clamp a.fmt a.onWidth a.period) posZero then .loWrite
            else .hiWrite }
  /-- HI_WRITE (R132). -/
  | writeHigh (hrun : a.genState = .running) (hph : a.seqPh = .hiWrite) :
      RegisterWrite c a .runCycle
        { a with
          pinLevel := if c.pinAnswer = .ok then .high else a.pinLevel, seqPh := .hiWaitEnter }
  /-- HI_WAIT_ENTER with a wait (R133). -/
  | enterHigh (hrun : a.genState = .running) (hph : a.seqPh = .hiWaitEnter) :
      RegisterWrite c a .runCycle
        (State.registers { a.waitEntry a.wSnap with seqPh := .hiPoll })
  /-- HI_WAIT_ENTER or HI_POLL with nothing left to wait for (R109, R134). -/
  | endHigh (hrun : a.genState = .running) (hph : a.seqPh = .hiWaitEnter ∨ a.seqPh = .hiPoll) :
      RegisterWrite c a .runCycle { a with seqPh := .loWrite }
  /-- LO_WRITE (R135). -/
  | writeLow (hrun : a.genState = .running) (hph : a.seqPh = .loWrite) :
      RegisterWrite c a .runCycle
        { a with
          pinLevel := if c.pinAnswer = .ok then .low else a.pinLevel, seqPh := .loWaitEnter }
  /-- LO_WAIT_ENTER with a wait (R136). -/
  | enterLow (hrun : a.genState = .running) (hph : a.seqPh = .loWaitEnter) :
      RegisterWrite c a .runCycle
        (State.registers { a.waitEntry a.lowWait with seqPh := .loPoll })
  /-- LO_WAIT_ENTER or LO_POLL with nothing left to wait for (R136, R137). -/
  | endLow (hrun : a.genState = .running) (hph : a.seqPh = .loWaitEnter ∨ a.seqPh = .loPoll) :
      RegisterWrite c a .runCycle { a with seqPh := .cycStart }
  /-- The entry step of WAIT_FOR (R105). -/
  | enterWait (hop : a.waitOp = false) :
      RegisterWrite c a .waitFor
        (State.registers { a.waitEntry c.operands.durIn with waitOp := true })
  /-- The last poll of WAIT_FOR (R106). -/
  | endWait (hop : a.waitOp = true) : RegisterWrite c a .waitFor { a with waitOp := false }

/-- A poll leaves the registers, or goes on with what follows the wait. -/
theorem State.registers_waitPoll (s : State) (after : State → State) :
    (s.waitPoll after).registers = s.registers ∨
      (s.waitPoll after).registers = (after s.readClock).registers := by
  obtain ⟨_, h⟩ | ⟨_, _, h⟩ | ⟨_, _, h⟩ := waitPoll_cases s after
  · exact .inl (by rw [h, registers_refuse])
  · exact .inr (by rw [h])
  · exact .inl (by rw [h, registers_readClock])

/-- START writes the registers when the block is not RUNNING and the period is admitted. -/
theorem registers_execStart {s u : State} (h : execStart s = .next u) :
    u.registers = s.registers ∨ RegisterWrite s.bus s.registers .start u.registers := by
  unfold execStart at h
  dsimp only at h
  split at h
  · cases h
    exact .inl (s.registers_refuse)
  · rename_i hrun
    split at h
    · cases h
      exact .inl (s.registers_raise ..)
    · rename_i hperiod
      have hadmitted : periodAdmitted s.fmt s.bus.operands.periodIn = true := by simpa using hperiod
      split at h <;> cases h
      · rw [State.registers_raise]
        exact .inr (.degrade hrun hadmitted)
      · rw [State.registers_complete]
        exact .inr (.run _ hrun hadmitted)

/-- STOP writes STOP_REQ while RUNNING. -/
theorem registers_execStop {s u : State} (h : execStop s = .next u) :
    u.registers = s.registers ∨ RegisterWrite s.bus s.registers .stop u.registers := by
  unfold execStop at h
  split at h <;> cases h <;> rw [State.registers_complete]
  · exact .inr (.requestStop ‹_›)
  · exact .inl rfl

/-- A setpoint write is the one register write of its operation. -/
theorem registers_setpoint {s : State} {i : Instr} {w : F64}
    (h : setpointOf s.cfg s.bus.operands i = some w) (r : ResultPorts) :
    RegisterWrite s.bus s.registers i ((s.writeOnWidth w).complete i r).registers := by
  rw [State.registers_complete]
  exact .setpoint h

/-- Each phase step of RUN_CYCLE makes the register write of its phase. -/
theorem registers_execRunCycle {s u : State} (h : execRunCycle s = .next u) :
    u.registers = s.registers ∨ RegisterWrite s.bus s.registers .runCycle u.registers := by
  unfold execRunCycle at h
  split at h
  case isFalse => cases h; exact .inl rfl
  case isTrue hrun =>
    cases hph : s.seqPh <;> rw [hph] at h
    case cycStart =>
      cases h
      obtain ⟨hstop, h⟩ | ⟨_, h⟩ := cycStartStep_cases s <;> rw [h]
      · exact .inr (.endLoop hrun hph hstop)
      · exact .inr (.snapshot hrun hph)
    case hiWrite =>
      obtain ⟨_, rfl⟩ := pinWrite_next h
      exact .inr (.writeHigh hrun hph)
    case hiWaitEnter =>
      cases h
      unfold hiWaitEnterStep
      split
      · exact .inr (.enterHigh hrun hph)
      · exact .inr (.endHigh hrun (.inl hph))
    case hiPoll =>
      cases h
      refine (s.registers_waitPoll _).imp_right fun h => ?_
      rw [hiPollStep, h]
      exact .endHigh hrun (.inr hph)
    case loWrite =>
      obtain ⟨_, rfl⟩ := pinWrite_next h
      exact .inr (.writeLow hrun hph)
    case loWaitEnter =>
      cases h
      unfold loWaitEnterStep
      split
      · exact .inr (.enterLow hrun hph)
      · exact .inr (.endLow hrun (.inl hph))
    case loPoll =>
      cases h
      refine (s.registers_waitPoll _).imp_right fun h => ?_
      rw [loPollStep, h]
      exact .endLow hrun (.inr hph)

/-- A step of WAIT_FOR enters its wait, polls it, or ends it. -/
theorem registers_execWaitFor {s u : State} (h : execWaitFor s = .next u) :
    u.registers = s.registers ∨ RegisterWrite s.bus s.registers .waitFor u.registers := by
  unfold execWaitFor at h
  split at h
  · rename_i hop
    cases h
    refine (s.registers_waitPoll _).imp_right fun h => ?_
    rw [h]
    exact .endWait hop
  · rename_i hop
    split at h <;> cases h
    · exact .inr (.enterWait (Bool.eq_false_of_not_eq_true hop))
    · exact .inl rfl

/-- What an operation does to the registers: nothing, or one of its register writes. -/
theorem registers_exec {i : Instr} {s u : State} (h : exec i s = .next u) :
    u.registers = s.registers ∨ RegisterWrite s.bus s.registers i u.registers := by
  by_cases hcodec : i.readsBuffer = true
  · obtain ⟨v, hv, _, hregs, _⟩ := exec_codec hcodec s
    cases hv.symm.trans h
    exact .inl hregs
  cases i with
  | start => exact registers_execStart h
  | stop => exact registers_execStop h
  | setOnWidth =>
    cases h
    exact .inr (registers_setpoint rfl _)
  | runCycle => exact registers_execRunCycle h
  | fwdEdge =>
    cases h
    exact .inr (registers_setpoint rfl _)
  | bwdEdge =>
    cases h
    exact .inr (registers_setpoint rfl _)
  | now =>
    cases h
    exact .inl (State.registers_complete ..)
  | frequency =>
    cases h
    exact .inl (State.registers_complete ..)
  | waitFor => exact registers_execWaitFor h
  | decodeHumidity | decodeTemperatureC | decodeAdc12 | decodeAdc10 | encodePixelFrame =>
    exact absurd rfl hcodec

/-! ### The command that runs an operation -/

/-- The command `c` makes the block run the operation `j`: its word decodes for its issuer, and
`j` is what that agent runs for it. -/
def State.Runs (s : State) (c : Command) (j : Instr) : Prop :=
  ∃ i, decodeFor c.issuer c.word = .ok i ∧ s.serves c.issuer i = some j

/-- What a step does to the registers: nothing, a tick, or a register write of the operation
that the command in turn runs. -/
theorem registers_step {s u : State} (h : step s = .next u) :
    u.registers = s.registers ∨
    (s.takeMove.1 = .clk ∧ u.registers = s.registers.clockTick) ∨
    ∃ c i, s.takeMove.1 = .issue c ∧ s.Runs c i ∧ RegisterWrite c s.registers i u.registers := by
  obtain ⟨l, n, htake⟩ := takeMove_snd s
  obtain ⟨hclk, rfl⟩ | ⟨c, hissue, hserve⟩ := step_next h
  · exact .inr (.inl ⟨hclk, by rw [htake]; rfl⟩)
  · obtain ⟨rfl, _⟩ | ⟨rfl, _⟩ | ⟨i, j, hdecode, _, hserves, hexec⟩ := serve_next hserve
    · exact .inl s.registers_takeMove
    · exact .inl s.registers_takeMove
    · have hsame : (s.takeMove.2.present c).registers = s.registers := s.registers_takeMove
      have hwrite := registers_exec hexec
      rw [hsame] at hwrite
      have hruns : s.Runs c j := ⟨i, hdecode, by rw [htake] at hserves; exact hserves⟩
      exact hwrite.imp_right fun hwrite => .inr ⟨c, j, hissue, hruns, hwrite⟩

/-- A word is its three fields (R70). -/
theorem word_eq_fields (w : CmdWord) :
    w = opcField w ++ rsvField w ++ BitVec.ofBool (aField w) := by
  refine BitVec.eq_of_getLsbD_eq fun k hk => ?_
  rw [BitVec.getLsbD_append, BitVec.getLsbD_append]
  interval_cases k <;> simp [opcField, rsvField, aField]

/-- The fields that stand for an operation are its operation code and, for an edge, its `A` bit
(R73). -/
theorem opcodeInstr_some {opc : Byte} {a : Bool} {i : Instr} (h : opcodeInstr opc a = some i) :
    opc = i.opcode ∧ i.activeBit = (a && i.hasActiveBit) := by
  have hopc : opc = BitVec.ofNat 8 opc.toNat := by simp
  unfold opcodeInstr at h
  split at h <;> cases h
  all_goals
    rename_i hcode
    rw [hopc, hcode]
    exact ⟨rfl, by simp [Instr.activeBit, Instr.hasActiveBit]⟩

/-- A word that decodes for an issuer is the word of the operation, and the table allows the
issuer. -/
theorem word_of_decodeFor {a : Issuer} {w : CmdWord} {i : Instr} (h : decodeFor a w = .ok i) :
    w = encode i ∧ i.allowsIssuer a = true := by
  obtain ⟨hdecode, hallowed⟩ := decodeFor_ok h
  obtain ⟨hinstr, hrsv, hbit⟩ := decode_fields hdecode
  obtain ⟨hopc, hactive⟩ := opcodeInstr_some hinstr
  have ha : aField w = i.activeBit := by
    rw [hactive]
    cases haw : aField w
    · rfl
    · simp [hbit haw]
  refine ⟨?_, hallowed⟩
  rw [word_eq_fields w, hopc, hrsv, ha, encode]

/-- RUN_CYCLE is SEQ's alone (R73). -/
theorem issuer_of_runCycle {a : Issuer} (h : Instr.runCycle.allowsIssuer a = true) : a = .seq := by
  cases a <;> revert h <;> decide

/-- WAIT_FOR is SEQ's alone (R73). -/
theorem issuer_of_waitFor {a : Issuer} (h : Instr.waitFor.allowsIssuer a = true) : a = .seq := by
  cases a <;> revert h <;> decide

/-- What is run is what the word decodes to, with a step of its agent, or SEQ's own loop. -/
theorem State.Runs.cases {s : State} {c : Command} {j : Instr} (h : s.Runs c j) :
    (c.issuer ≠ .seq ∧ decodeFor c.issuer c.word = .ok j) ∨
    (c.issuer = .seq ∧ s.genState = .running ∧
      ((j = .waitFor ∧ s.waitOp = true) ∨ (j = .runCycle ∧ s.waitOp = false) ∨
       (decodeFor c.issuer c.word = .ok j ∧ j ≠ .runCycle ∧ s.seqPh.polls = false ∧
        s.seqPh ≠ .cycStart))) := by
  obtain ⟨i, hdecode, hserves⟩ := h
  by_cases hseq : c.issuer = .seq
  · rw [hseq] at hserves
    obtain ⟨hrun, ⟨_, hop, rfl⟩ | ⟨_, hop, rfl⟩ | ⟨hi, _, hpoll, hph, rfl⟩⟩ :=
      seqServes_some hserves
    · exact .inr ⟨hseq, hrun, .inl ⟨rfl, hop⟩⟩
    · exact .inr ⟨hseq, hrun, .inr (.inl ⟨rfl, hop⟩)⟩
    · exact .inr ⟨hseq, hrun, .inr (.inr ⟨hdecode, hi, hpoll, hph⟩)⟩
  · rw [serves_of_ne_seq hseq] at hserves
    cases hserves
    exact .inl ⟨hseq, hdecode⟩

/-- An operation that is not SEQ's alone is run for its own word and an issuer of its row. -/
theorem State.Runs.issued {s : State} {c : Command} {j : Instr} (h : s.Runs c j)
    (hcycle : j ≠ .runCycle) (hwait : j ≠ .waitFor) :
    c.word = encode j ∧ j.allowsIssuer c.issuer = true := by
  obtain ⟨_, hdecode⟩ | ⟨_, _, ⟨hj, _⟩ | ⟨hj, _⟩ | ⟨hdecode, _⟩⟩ := h.cases
  · exact word_of_decodeFor hdecode
  · exact absurd hj hwait
  · exact absurd hj hcycle
  · exact word_of_decodeFor hdecode

/-- A phase step is SEQ's, while RUNNING, with no WAIT_FOR in progress (R112, R129). -/
theorem State.Runs.of_runCycle {s : State} {c : Command} (h : s.Runs c .runCycle) :
    c.issuer = .seq ∧ s.genState = .running ∧ s.waitOp = false := by
  obtain ⟨hne, hdecode⟩ | ⟨hseq, hrun, ⟨hj, _⟩ | ⟨_, hop⟩ | ⟨_, hj, _⟩⟩ := h.cases
  · exact absurd (issuer_of_runCycle (decodeFor_ok hdecode).2) hne
  · cases hj
  · exact ⟨hseq, hrun, hop⟩
  · exact absurd rfl hj

/-- A step of WAIT_FOR is taken while RUNNING, and its entry step inside a cycle and outside the
poll phases (R112, R126, R129). -/
theorem State.Runs.of_waitFor {s : State} {c : Command} (h : s.Runs c .waitFor) :
    s.genState = .running ∧ (s.waitOp = true ∨ s.seqPh.polls = false ∧ s.seqPh ≠ .cycStart) := by
  obtain ⟨hne, hdecode⟩ | ⟨_, hrun, ⟨_, hop⟩ | ⟨hj, _⟩ | ⟨_, _, hpoll, hph⟩⟩ := h.cases
  · exact absurd (issuer_of_waitFor (decodeFor_ok hdecode).2) hne
  · exact ⟨hrun, .inl hop⟩
  · cases hj
  · exact ⟨hrun, .inr ⟨hpoll, hph⟩⟩

end Sys2Proof.Machine
end

section
/-! PROOFS. Which step changes which register (R21, R22, R23, R29, R30, R31). -/

namespace Sys2Proof.Machine

/-- A step that changes something of the registers which a tick does not change makes a register
write. -/
theorem step_changes {α : Type} (f : State → α) (hregs : ∀ s : State, f s.registers = f s)
    (hclk : ∀ s : State, f s.clockTick = f s) {s u : State} (h : step s = .next u)
    (hne : f u ≠ f s) :
    ∃ c i, s.takeMove.1 = .issue c ∧ s.Runs c i ∧ RegisterWrite c s.registers i u.registers := by
  rw [← hregs u, ← hregs s] at hne
  obtain heq | ⟨_, heq⟩ | hwrite := registers_step h
  · exact absurd (congrArg f heq) hne
  · exact absurd (by rw [heq, hclk]) hne
  · exact hwrite

section
variable {c : Command} {a b : State} {i : Instr}

/-- No register write reaches the constants. -/
theorem RegisterWrite.cfg_eq (h : RegisterWrite c a i b) : b.cfg = a.cfg := by
  cases h <;> rfl

/-- No register write reaches the tick. -/
theorem RegisterWrite.t_eq (h : RegisterWrite c a i b) : b.t = a.t := by
  cases h <;> rfl

/-- GEN_STATE is written by START and at the end of the loop (R23). -/
theorem RegisterWrite.genState_changed (h : RegisterWrite c a i b)
    (hne : b.genState ≠ a.genState) :
    (i = .start ∧ a.genState ≠ .running ∧ (b.genState = .running ∨ b.genState = .degraded)) ∨
    (i = .runCycle ∧ a.genState = .running ∧ b.genState = .stopped ∧ a.seqPh = .cycStart ∧
      a.stopReq = true) := by
  cases h with
  | degrade hrun => exact .inl ⟨rfl, hrun, .inr rfl⟩
  | run _ hrun => exact .inl ⟨rfl, hrun, .inl rfl⟩
  | endLoop hrun hph hstop => exact .inr ⟨rfl, hrun, rfl, hph, hstop⟩
  | _ => exact absurd rfl hne

/-- ON_WIDTH is written by the setpoint writers, with the value of each (R61). -/
theorem RegisterWrite.onWidth_changed (h : RegisterWrite c a i b) (hne : b.onWidth ≠ a.onWidth) :
    setpointOf a.cfg c.operands i = some b.onWidth := by
  cases h with
  | setpoint hvalue => exact hvalue
  | _ => exact absurd rfl hne

/-- PERIOD is written by START, outside RUNNING, with an admitted operand (R22). -/
theorem RegisterWrite.period_changed (h : RegisterWrite c a i b) (hne : b.period ≠ a.period) :
    i = .start ∧ a.genState ≠ .running ∧ b.period = c.operands.periodIn ∧
      periodAdmitted a.fmt b.period = true := by
  cases h with
  | degrade hrun hperiod => exact ⟨rfl, hrun, rfl, hperiod⟩
  | run _ hrun hperiod => exact ⟨rfl, hrun, rfl, hperiod⟩
  | _ => exact absurd rfl hne

/-- PIN_LEVEL is written by the two write phases, when PINENV answers OK (R31). -/
theorem RegisterWrite.pinLevel_changed (h : RegisterWrite c a i b)
    (hne : b.pinLevel ≠ a.pinLevel) :
    i = .runCycle ∧ c.pinAnswer = .ok ∧
      ((a.seqPh = .hiWrite ∧ b.pinLevel = .high) ∨ (a.seqPh = .loWrite ∧ b.pinLevel = .low)) := by
  cases h with
  | writeHigh _ hph =>
    have hok : c.pinAnswer = .ok := of_not_not fun hbad => hne (if_neg hbad)
    exact ⟨rfl, hok, .inl ⟨hph, if_pos hok⟩⟩
  | writeLow _ hph =>
    have hok : c.pinAnswer = .ok := of_not_not fun hbad => hne (if_neg hbad)
    exact ⟨rfl, hok, .inr ⟨hph, if_pos hok⟩⟩
  | _ => exact absurd rfl hne

end

/-- START is the word 0x0100 of HOST (R73). -/
theorem State.Runs.of_start {s : State} {c : Command} (h : s.Runs c .start) :
    c.issuer = .host ∧ c.word = 0x0100 := by
  obtain ⟨hword, hallowed⟩ := h.issued (by decide) (by decide)
  exact ⟨by simpa [Instr.allowsIssuer, Instr.issuers] using hallowed, hword⟩

/-- The setpoint writers and the value of each (R124, R150, R151). -/
theorem setpointOf_cases {p : Params} {o : Operands} {i : Instr} {w : F64}
    (h : setpointOf p o i = some w) :
    (i = .setOnWidth ∧ w = o.widthIn) ∨ (i = .fwdEdge true ∧ w = p.fwdWidth) ∨
    (i = .bwdEdge true ∧ w = p.bwdWidth) ∨
    ((i = .fwdEdge false ∨ i = .bwdEdge false) ∧ w = posZero) := by
  cases i with
  | setOnWidth => cases h; exact .inl ⟨rfl, rfl⟩
  | fwdEdge active =>
    cases active <;> cases h
    · exact .inr (.inr (.inr ⟨.inl rfl, rfl⟩))
    · exact .inr (.inl ⟨rfl, rfl⟩)
  | bwdEdge active =>
    cases active <;> cases h
    · exact .inr (.inr (.inr ⟨.inr rfl, rfl⟩))
    · exact .inr (.inr (.inl ⟨rfl, rfl⟩))
  | _ => cases h

/-- SEQ issues no setpoint writer (R73). -/
theorem issuer_of_setpointOf {p : Params} {o : Operands} {i : Instr} {w : F64} {a : Issuer}
    (hvalue : setpointOf p o i = some w) (h : i.allowsIssuer a = true) : a = .host ∨ a = .edge := by
  cases a with
  | host => exact .inl rfl
  | edge => exact .inr rfl
  | seq =>
    obtain ⟨rfl, _⟩ | ⟨rfl, _⟩ | ⟨rfl, _⟩ | ⟨rfl | rfl, _⟩ := setpointOf_cases hvalue <;>
      exact absurd h (by decide)

/-- Settles O34: START and the end of the loop are the two writes of GEN_STATE. -/
theorem genStateTransitions : Obligations.GenStateTransitions := by
  intro s u h hne
  obtain ⟨c, i, hissue, hruns, hwrite⟩ :=
    step_changes State.genState (fun _ => rfl) (fun _ => rfl) h hne
  refine ⟨c, hissue, ?_⟩
  obtain ⟨rfl, hrun, hnew⟩ | ⟨rfl, hrun, hnew, hph, hstop⟩ := hwrite.genState_changed hne
  · exact .inl ⟨hrun, hnew, hruns.of_start⟩
  · exact .inr ⟨hrun, hnew, hruns.of_runCycle.1, hph, hstop⟩

/-- Settles O35: the setpoint writers are the writes of ON_WIDTH, each with its own word. -/
theorem onWidthWriters : Obligations.OnWidthWriters := by
  intro s u h hne
  obtain ⟨c, i, hissue, hruns, hwrite⟩ :=
    step_changes State.onWidth (fun _ => rfl) (fun _ => rfl) h hne
  have hvalue : setpointOf s.cfg c.operands i = some u.onWidth := hwrite.onWidth_changed hne
  obtain ⟨hword, hallowed⟩ :=
    hruns.issued (by rintro rfl; cases hvalue) (by rintro rfl; cases hvalue)
  refine ⟨c, hissue, issuer_of_setpointOf hvalue hallowed, ?_⟩
  obtain ⟨rfl, hnew⟩ | ⟨rfl, hnew⟩ | ⟨rfl, hnew⟩ | ⟨rfl | rfl, hnew⟩ := setpointOf_cases hvalue
  · exact .inl ⟨hword, hnew⟩
  · exact .inr (.inl ⟨hword, hnew⟩)
  · exact .inr (.inr (.inl ⟨hword, hnew⟩))
  · exact .inr (.inr (.inr ⟨.inl hword, hnew⟩))
  · exact .inr (.inr (.inr ⟨.inr hword, hnew⟩))

/-- Settles O36: START outside RUNNING is the write of PERIOD, after its check of the operand. -/
theorem periodIsWrittenByStartOnly : Obligations.PeriodIsWrittenByStartOnly := by
  intro s u h hne
  obtain ⟨c, i, hissue, hruns, hwrite⟩ :=
    step_changes State.period (fun _ => rfl) (fun _ => rfl) h hne
  obtain ⟨rfl, hrun, hnew, hadmitted⟩ := hwrite.period_changed hne
  obtain ⟨hhost, hword⟩ := hruns.of_start
  exact ⟨hrun, c, hissue, hhost, hword, hnew, Bool.and_eq_true_iff.mp hadmitted⟩

/-- Settles O37: neither a tick nor a register write reaches the constants. -/
theorem constantsNeverChange : Obligations.ConstantsNeverChange := by
  intro s u h
  by_contra hne
  obtain ⟨c, i, _, _, hwrite⟩ := step_changes State.cfg (fun _ => rfl) (fun _ => rfl) h hne
  exact hne hwrite.cfg_eq

/-- Settles O38: a register write does not reach the tick, and a tick of the unbounded counter adds
one. -/
theorem onlyTheClockChangesTheTick : Obligations.OnlyTheClockChangesTheTick := by
  intro s u hbits h
  obtain heq | ⟨hclk, heq⟩ | ⟨c, i, _, _, hwrite⟩ := registers_step h
  · have ht : u.t = s.t := (congrArg State.t heq :)
    exact ⟨ht.ge, fun hne => absurd ht hne⟩
  · have ht : u.t = s.t + 1 :=
      (congrArg State.t heq :).trans (nextTick_of_unbounded hbits s.t)
    exact ⟨by omega, fun _ => ⟨hclk, ht⟩⟩
  · have ht : u.t = s.t := hwrite.t_eq
    exact ⟨ht.ge, fun hne => absurd ht hne⟩

/-- Settles O39: the write phases are SEQ's, while RUNNING. -/
theorem pinLevelChangesOnlyByASuccessfulWrite :
    Obligations.PinLevelChangesOnlyByASuccessfulWrite := by
  intro s u h hne
  obtain ⟨c, i, hissue, hruns, hwrite⟩ :=
    step_changes State.pinLevel (fun _ => rfl) (fun _ => rfl) h hne
  obtain ⟨rfl, hok, hlevel⟩ := hwrite.pinLevel_changed hne
  obtain ⟨hseq, hrun, _⟩ := hruns.of_runCycle
  exact ⟨hrun, c, hissue, hseq, hok, hlevel⟩

end Sys2Proof.Machine
end

section
/-! PROOFS. Every step keeps the register invariant. -/

namespace Sys2Proof.Float64

/-! ### The range of a clamped value -/

theorem isFinite_posZero (f : FloatFmt) : isFinite f posZero = true := by
  cases f <;> decide

theorem ge_of_gt {f : FloatFmt} {x y : F64} (h : gt f x y = true) : ge f x y = true := by
  rw [ge, ← gt, h, Bool.true_or]

/-- A value at or above another one that it does not equal is above it. -/
theorem gt_of_ge_of_ne {f : FloatFmt} {x y : F64} (h : ge f x y = true) (hne : eq f x y = false) :
    gt f x y = true := by
  rw [ge, ← gt, ← eq, hne, Bool.or_false] at h
  exact h

/-- A value that is no NaN and not above a finite one is at or below it. -/
theorem le_of_not_gt {f : FloatFmt} {x p : F64} (hp : isFinite f p = true)
    (hx : isNaN f x = false) (h : gt f x p = false) : le f x p = true := by
  obtain ⟨s, m, e, hup⟩ := isFinite_iff.mp hp
  cases hux : unpack f x with
  | nan => simp [isNaN, hux] at hx
  | inf neg => cases neg <;> simp_all [gt, le, ge, compare]
  | fin t n d =>
    have hfin : isFinite f x = true := isFinite_iff.mpr ⟨t, n, d, hux⟩
    rw [le_iff_real hfin hp]
    exact not_lt.mp fun hlt => by simp [(gt_iff_real hfin hp).mpr hlt] at h

end Sys2Proof.Float64

namespace Sys2Proof.Machine

/-- A clamped value lies between zero and the period (R131). -/
theorem clamp_range {f : FloatFmt} {p : F64} (hp : periodAdmitted f p = true) (v : F64) :
    Float64.ge f (clamp f v p) posZero = true ∧ Float64.le f (clamp f v p) p = true := by
  obtain ⟨hfinite, hpos⟩ : Float64.isFinite f p = true ∧ Float64.gt f p posZero = true :=
    Bool.and_eq_true_iff.mp hp
  have hzero := Float64.isFinite_posZero f
  obtain ⟨_, h⟩ | ⟨hle, hge, h⟩ | ⟨_, _, h⟩ := clamp_cases f v p <;> rw [h]
  · exact ⟨Float64.ge_of_gt hpos, (Float64.le_iff_real hfinite hfinite).mpr le_rfl⟩
  · have hnan : Float64.isNaN f v = false := by
      by_contra hv
      have hnone := Float64.compare_of_nan (y := posZero) (.inl (Bool.eq_true_of_not_eq_false hv))
      simp [Float64.ge, hnone] at hge
    exact ⟨hge, Float64.le_of_not_gt hfinite hnan hle⟩
  · exact ⟨(Float64.ge_iff_real hzero hzero).mpr le_rfl, Float64.ge_of_gt hpos⟩

/-! ### What the invariant asks for in each part of the loop -/

/-- The invariant speaks of the registers alone. -/
theorem State.inv_registers {s : State} : s.registers.Inv ↔ s.Inv :=
  ⟨fun h => ⟨h.bound, h.stopRunning, h.opRunning, h.periodOk, h.snapRange, h.snapPositive,
      h.highWait, h.lowWait, h.entryRead⟩,
    fun h => ⟨h.bound, h.stopRunning, h.opRunning, h.periodOk, h.snapRange, h.snapPositive,
      h.highWait, h.lowWait, h.entryRead⟩⟩

/-- The phases inside a cycle in which SEQ is not polling. -/
def SeqPhase.midCycle (ph : SeqPhase) : Prop := ph.polls = false ∧ ph ≠ .cycStart

/-- `0.0 <= W_SNAP <= PERIOD` (R131, R136). -/
def State.snapInRange (s : State) : Prop :=
  Float64.ge s.fmt s.wSnap posZero = true ∧ Float64.le s.fmt s.wSnap s.period = true

/-- Outside RUNNING nothing is asked of the phase, the snapshot and the wait. -/
theorem State.inv_of_not_running {s : State} (hrun : s.genState ≠ .running)
    (hstop : s.stopReq = false) (hop : s.waitOp = false)
    (hperiod : periodAdmitted s.fmt s.period = true) : s.Inv where
  bound h := absurd h hrun
  stopRunning h := by simp [hstop] at h
  opRunning h := by simp [hop] at h
  periodOk := hperiod
  snapRange h := absurd h hrun
  snapPositive h := absurd h hrun
  highWait h := absurd h hrun
  lowWait h := absurd h hrun
  entryRead h := by simp [State.waiting, hrun, hop] at h

/-- At the start of a cycle nothing is asked of the snapshot and the wait. -/
theorem State.inv_of_cycStart {s : State} (hrun : s.genState = .running)
    (hph : s.seqPh = .cycStart) (hbound : s.pinBind ≠ none) (hop : s.waitOp = false)
    (hperiod : periodAdmitted s.fmt s.period = true) : s.Inv where
  bound _ := hbound
  stopRunning _ := hrun
  opRunning h := by simp [hop] at h
  periodOk := hperiod
  snapRange _ h := absurd hph h
  snapPositive := by simp [hph]
  highWait := by simp [hph]
  lowWait := by simp [hph]
  entryRead h := by simp [State.waiting, SeqPhase.polls, hph, hop] at h

/-- Inside a cycle and outside the poll phases the only wait is that of a WAIT_FOR operation. -/
theorem State.inv_of_midCycle {s : State} (hrun : s.genState = .running)
    (hph : s.seqPh.midCycle) (hbound : s.pinBind ≠ none)
    (hperiod : periodAdmitted s.fmt s.period = true) (hsnap : s.snapInRange)
    (hpositive : s.seqPh = .hiWrite ∨ s.seqPh = .hiWaitEnter →
      Float64.gt s.fmt s.wSnap posZero = true)
    (hread : s.waitOp = true → s.wrapped = false → s.waitT0 ≤ s.t) : s.Inv where
  bound _ := hbound
  stopRunning _ := hrun
  opRunning _ := ⟨hrun, hph⟩
  periodOk := hperiod
  snapRange _ _ := hsnap
  snapPositive _ h := hpositive (h.imp_right fun h => h.resolve_right fun h => by
    simp [SeqPhase.midCycle, SeqPhase.polls, h] at hph)
  highWait _ h := by simp [SeqPhase.midCycle, SeqPhase.polls, h] at hph
  lowWait _ h := by simp [SeqPhase.midCycle, SeqPhase.polls, h] at hph
  entryRead h := hread (h.resolve_right fun h => by simp [hph.1] at h)

/-- In a poll phase the wait in progress is that of the phase. -/
theorem State.inv_of_polls {s : State} (hrun : s.genState = .running)
    (hph : s.seqPh = .hiPoll ∨ s.seqPh = .loPoll) (hbound : s.pinBind ≠ none)
    (hop : s.waitOp = false) (hperiod : periodAdmitted s.fmt s.period = true)
    (hsnap : s.snapInRange)
    (hhigh : s.seqPh = .hiPoll → Float64.gt s.fmt s.wSnap posZero = true ∧
      s.waitDur = s.wSnap ∧ s.waitDelta = waitTicks s.cfg s.wSnap)
    (hlow : s.seqPh = .loPoll → s.waitDur = s.lowWait ∧ s.waitDelta = waitTicks s.cfg s.lowWait)
    (hread : s.waitT0 ≤ s.t) : s.Inv where
  bound _ := hbound
  stopRunning _ := hrun
  opRunning h := by simp [hop] at h
  periodOk := hperiod
  snapRange _ _ := hsnap
  snapPositive _ h := (hhigh (hph.resolve_right fun hlow => by simp [hlow] at h)).1
  highWait _ h := (hhigh h).2
  lowWait _ h := hlow h
  entryRead _ _ := hread

/-- No WAIT_FOR operation is in progress outside RUNNING, nor at the start of a cycle. -/
theorem State.Inv.no_waitOp {s : State} (h : s.Inv)
    (hout : s.genState ≠ .running ∨ s.seqPh = .cycStart) : s.waitOp = false := by
  refine Bool.eq_false_of_not_eq_true fun hop => ?_
  obtain ⟨hrun, _, hph⟩ := h.opRunning hop
  exact hout.elim (fun hne => hne hrun) hph

/-- Inside a cycle `W_SNAP` is in range. -/
theorem State.Inv.snapInRange {s : State} (h : s.Inv) (hrun : s.genState = .running)
    {ph : SeqPhase} (hph : s.seqPh = ph) (hne : ph ≠ .cycStart) : s.snapInRange :=
  h.snapRange hrun (hph ▸ hne)

/-- While a WAIT_FOR operation is in progress, its entry read is not after the current tick. -/
theorem State.Inv.opRead {s : State} (h : s.Inv) (hop : s.waitOp = true)
    (hwrap : s.wrapped = false) : s.waitT0 ≤ s.t :=
  h.entryRead (.inl hop) hwrap

/-! ### The steps -/

/-- A tick that does not wrap only takes the current tick further from the entry read. -/
theorem State.Inv.clockTick {s : State} (h : s.Inv) : s.clockTick.Inv :=
  { h with
    entryRead := fun hwait hwrap => by
      obtain ⟨hwrap, hnowrap⟩ : s.wrapped = false ∧ s.t + 1 ≤ nextTick s.cfg s.t := by
        simpa using hwrap
      have hread : s.waitT0 ≤ s.t := h.entryRead hwait hwrap
      exact hread.trans (Nat.le_of_succ_le hnowrap) }

/-- The snapshot is in range, and positive when it starts a HIGH phase (R130, R131). -/
theorem State.Inv.snapshot {s : State} (h : s.Inv) (hrun : s.genState = .running)
    (hph : s.seqPh = .cycStart) :
    State.Inv { s with
      wSnap := clamp s.fmt s.onWidth s.period
      seqPh := if Float64.eq s.fmt (clamp s.fmt s.onWidth s.period) posZero then .loWrite
        else .hiWrite } := by
  have hrange := clamp_range h.periodOk s.onWidth
  refine State.inv_of_midCycle hrun ?_ (h.bound hrun) h.periodOk hrange ?_ ?_
  · dsimp only
    split <;> exact ⟨rfl, by decide⟩
  · dsimp only
    split
    · simp
    · rename_i hne
      exact fun _ => Float64.gt_of_ge_of_ne hrange.1 (Bool.eq_false_of_not_eq_true hne)
  · simp [h.no_waitOp (.inr hph)]

/-- Every register write keeps the invariant. -/
theorem RegisterWrite.keeps_inv {c : Command} {a b : State} {i : Instr}
    (hwrite : RegisterWrite c a i b) (hruns : a.Runs c i) (h : a.Inv) : b.Inv := by
  cases hwrite with
  | degrade hrun hperiod =>
    exact State.inv_of_not_running (by simp) rfl (h.no_waitOp (.inl hrun)) hperiod
  | run handle hrun hperiod =>
    exact State.inv_of_cycStart rfl rfl (by simp) (h.no_waitOp (.inl hrun)) hperiod
  | requestStop hrun => exact { h with stopRunning := fun _ => hrun }
  | setpoint => exact { h with }
  | endLoop _ hph =>
    exact State.inv_of_not_running (by simp) rfl (h.no_waitOp (.inr hph)) h.periodOk
  | snapshot hrun hph => exact h.snapshot hrun hph
  | writeHigh hrun hph =>
    exact State.inv_of_midCycle hrun ⟨rfl, by simp⟩ (h.bound hrun) h.periodOk
      (h.snapInRange hrun hph (by decide)) (fun _ => h.snapPositive hrun (.inl hph)) h.opRead
  | enterHigh hrun hph =>
    obtain ⟨_, _, hop⟩ := hruns.of_runCycle
    exact State.inv_of_polls hrun (.inl rfl) (h.bound hrun) hop h.periodOk
      (h.snapInRange hrun hph (by decide))
      (fun _ => ⟨h.snapPositive hrun (.inr (.inl hph)), rfl, rfl⟩) nofun le_rfl
  | endHigh hrun hph =>
    obtain ⟨_, hph, hne⟩ : ∃ ph, a.seqPh = ph ∧ ph ≠ .cycStart := by
      obtain hph | hph := hph <;> exact ⟨_, hph, by decide⟩
    exact State.inv_of_midCycle hrun ⟨rfl, by simp⟩ (h.bound hrun) h.periodOk
      (h.snapInRange hrun hph hne) (by simp) h.opRead
  | writeLow hrun hph =>
    exact State.inv_of_midCycle hrun ⟨rfl, by simp⟩ (h.bound hrun) h.periodOk
      (h.snapInRange hrun hph (by decide)) (by simp) h.opRead
  | enterLow hrun hph =>
    obtain ⟨_, _, hop⟩ := hruns.of_runCycle
    exact State.inv_of_polls hrun (.inr rfl) (h.bound hrun) hop h.periodOk
      (h.snapInRange hrun hph (by decide)) nofun (fun _ => ⟨rfl, rfl⟩) le_rfl
  | endLow hrun hph =>
    obtain ⟨_, _, hop⟩ := hruns.of_runCycle
    exact State.inv_of_cycStart hrun rfl (h.bound hrun) hop h.periodOk
  | enterWait hop =>
    obtain ⟨hrun, hph⟩ := hruns.of_waitFor
    have hmid : a.seqPh.midCycle := hph.resolve_left (by simp [hop])
    exact State.inv_of_midCycle hrun hmid (h.bound hrun) h.periodOk (h.snapRange hrun hmid.2)
      (fun hph => h.snapPositive hrun (hph.imp_right .inl)) (fun _ _ => le_rfl)
  | endWait hop =>
    obtain ⟨hrun, hmid⟩ := h.opRunning hop
    exact State.inv_of_midCycle hrun hmid (h.bound hrun) h.periodOk (h.snapRange hrun hmid.2)
      (fun hph => h.snapPositive hrun (hph.imp_right .inl)) (by simp)

/-- Settles O42: a step leaves the registers, ticks, or makes a register write of the operation
run. -/
theorem everyStepKeepsTheRegisterInvariant : Obligations.EveryStepKeepsTheRegisterInvariant := by
  intro s u h hstep
  have hregs : s.registers.Inv := State.inv_registers.mpr h
  rw [← State.inv_registers]
  obtain heq | ⟨_, heq⟩ | ⟨c, i, _, hruns, hwrite⟩ := registers_step hstep
  · exact heq ▸ hregs
  · exact heq ▸ hregs.clockTick
  · exact hwrite.keeps_inv hruns hregs

end Sys2Proof.Machine
end

section
/-! PROOFS. What a phase step leaves alone, the setpoint store, and the numeric codes. -/

namespace Sys2Proof.Machine

/-! ### The setpoint and the stop request inside a cycle -/

/-- The state with other contents of ON_WIDTH and STOP_REQ. -/
def State.withSetpointAndStop (s : State) (w : F64) (b : Bool) : State :=
  { s with onWidth := w, stopReq := b }

/-- A continuation that neither looks at the two registers nor writes them. -/
def IgnoresSetpointAndStop (after : State → State) : Prop :=
  ∀ (s : State) (w : F64) (b : Bool),
    after (s.withSetpointAndStop w b) = (after s).withSetpointAndStop w b

/-- The wait entry of the HIGH phase ignores the two registers. -/
theorem ignoresSetpointAndStop_hiWaitEnterStep : IgnoresSetpointAndStop hiWaitEnterStep := by
  intro s w b
  have hneeded : (s.withSetpointAndStop w b).waitNeeded (s.withSetpointAndStop w b).wSnap =
      s.waitNeeded s.wSnap := rfl
  unfold hiWaitEnterStep
  rw [hneeded]
  cases s.waitNeeded s.wSnap <;> rfl

/-- The wait entry of the LOW phase ignores the two registers. -/
theorem ignoresSetpointAndStop_loWaitEnterStep : IgnoresSetpointAndStop loWaitEnterStep := by
  intro s w b
  have hneeded : (s.withSetpointAndStop w b).waitNeeded (s.withSetpointAndStop w b).lowWait =
      s.waitNeeded s.lowWait := rfl
  unfold loWaitEnterStep
  rw [hneeded]
  cases s.waitNeeded s.lowWait <;> rfl

/-- A poll ignores the two registers when what follows the wait does. -/
theorem IgnoresSetpointAndStop.waitPoll {after : State → State}
    (hafter : IgnoresSetpointAndStop after) :
    IgnoresSetpointAndStop fun s => s.waitPoll after := by
  intro s w b
  have hover : (s.withSetpointAndStop w b).waitOver = s.waitOver := rfl
  have hwrapped : (s.withSetpointAndStop w b).wrapped = s.wrapped := rfl
  dsimp only
  unfold State.waitPoll
  rw [hover, hwrapped]
  cases s.wrapped <;> cases s.waitOver
  case false.true => exact hafter s.readClock w b
  all_goals rfl

/-- A pin write ignores the two registers when the phase change after it does. -/
theorem IgnoresSetpointAndStop.pinWrite {after : State → State}
    (hafter : IgnoresSetpointAndStop after) {s u : State} {level : Level}
    (h : s.pinWrite level after = .next u) (w : F64) (b : Bool) :
    (s.withSetpointAndStop w b).pinWrite level after = .next (u.withSetpointAndStop w b) := by
  obtain ⟨hbound, rfl⟩ := pinWrite_next h
  obtain ⟨v, hv⟩ := pinWrite_of_bound (s := s.withSetpointAndStop w b) hbound level after
  rw [hv, (pinWrite_next hv).2, ← hafter]
  rfl

/-- Settles O41: each phase step but CYC_START ignores the two registers. -/
theorem midCycleStepsIgnoreSetpointAndStop : Obligations.MidCycleStepsIgnoreSetpointAndStop := by
  intro s u w b hne h
  have h : execRunCycle s = .next u := h
  suffices hsame : execRunCycle (s.withSetpointAndStop w b) = .next (u.withSetpointAndStop w b) from
    hsame
  have hrun' : (s.withSetpointAndStop w b).genState = s.genState := rfl
  have hph' : (s.withSetpointAndStop w b).seqPh = s.seqPh := rfl
  unfold execRunCycle at h ⊢
  rw [hrun', hph']
  split at h
  case isFalse hrun =>
    cases h
    exact if_neg hrun
  case isTrue hrun =>
    rw [if_pos hrun]
    cases hph : s.seqPh <;> rw [hph] at h
    case cycStart => exact absurd hph hne
    case hiWrite => exact IgnoresSetpointAndStop.pinWrite (fun _ _ _ => rfl) h w b
    case hiWaitEnter =>
      cases h
      exact congrArg _ (ignoresSetpointAndStop_hiWaitEnterStep s w b)
    case hiPoll =>
      cases h
      exact congrArg _ (IgnoresSetpointAndStop.waitPoll (fun _ _ _ => rfl) s w b)
    case loWrite => exact IgnoresSetpointAndStop.pinWrite (fun _ _ _ => rfl) h w b
    case loWaitEnter =>
      cases h
      exact congrArg _ (ignoresSetpointAndStop_loWaitEnterStep s w b)
    case loPoll =>
      cases h
      exact congrArg _ (IgnoresSetpointAndStop.waitPoll (fun _ _ _ => rfl) s w b)

/-! ### SET_ON_WIDTH -/

/-- SET_ON_WIDTH is issued as the word 0x0300, by HOST and by EDGE. -/
theorem setOnWidth_issuedAs : IssuedAs .setOnWidth 0x0300 [.host, .edge] := by
  refine ⟨by decide, fun a => ?_⟩
  cases a <;> decide

/-- Settles O26: the store takes the operand as it is, and the one event is that of the
operation. -/
theorem setOnWidthStoresUnclamped : Obligations.SetOnWidthStoresUnclamped := by
  refine ⟨setOnWidth_issuedAs, fun s hne => ?_⟩
  have hissuer :
      ((s.writeOnWidth s.bus.operands.widthIn).drive okPorts).bus.issuer ≠ .seq := hne
  simp only [exec, execSetOnWidth, State.complete, State.recordCmd_of_ne_seq _ _ _ _ hissuer]
  rfl

/-! ### The codes -/

/-- The code 7 of SEQ_PH is reserved (R25). -/
theorem SeqPhase.code_ne_seven (ph : SeqPhase) : ph.code ≠ 7 := by
  cases ph <;> decide

/-- A STATUS code is below 4 (R200). -/
theorem Status.code_lt_four (e : Status) : e.code.toNat < 4 := by
  cases e <;> decide

/-- A RES_UNIT code is below 4 (R168). -/
theorem UnitCode.code_lt_four (c : UnitCode) : c.code.toNat < 4 := by
  cases c <;> decide

/-- Settles O48: the tables are the equations of the code functions, and their values are all there
are. -/
theorem numericCodes : Obligations.NumericCodes :=
  ⟨⟨rfl, rfl, rfl, rfl⟩, ⟨rfl, rfl, rfl, rfl, rfl, rfl, rfl⟩, ⟨rfl, rfl, rfl, rfl⟩,
    ⟨rfl, rfl, rfl, rfl⟩, SeqPhase.code_ne_seven, Status.code_lt_four, UnitCode.code_lt_four⟩

end Sys2Proof.Machine
end

section
/-! PROOFS. The setpoint after a sequence of its writers, and the decoders of sensor samples. -/

namespace Sys2Proof.Machine

/-! ### Sequences of setpoint writers -/

/-- A setpoint writer stores its value and returns OK (R124, R150, R151). -/
theorem exec_of_setpointOf {s : State} {i : Instr} {w : F64}
    (h : setpointOf s.cfg s.bus.operands i = some w) :
    exec i s = .next ((s.writeOnWidth w).complete i okPorts) := by
  cases i with
  | setOnWidth | fwdEdge | bwdEdge => cases h; rfl
  | _ => cases h

/-- A sequence goes on from the state that its first part leaves. -/
theorem execAll_append {ops : List (Instr × Command)} {s u : State}
    (h : execAll ops s = .next u) (rest : List (Instr × Command)) :
    execAll (ops ++ rest) s = execAll rest u := by
  induction ops generalizing s with
  | nil =>
    cases h
    rfl
  | cons q ops ih =>
    obtain ⟨i, c⟩ := q
    rw [execAll] at h
    rw [List.cons_append, execAll]
    cases hexec : exec i (s.present c) with
    | next v =>
      rw [hexec] at h
      exact ih h
    | fault r | refused r =>
      rw [hexec] at h
      cases h

/-- A setpoint writer at the head of a sequence stores its value, and the rest goes on from
there. -/
theorem execAll_cons_of_setpointOf {s : State} {i : Instr} {c : Command} {w : F64}
    (h : setpointOf s.cfg c.operands i = some w) (rest : List (Instr × Command)) :
    execAll ((i, c) :: rest) s =
      execAll rest (((s.present c).writeOnWidth w).complete i okPorts) := by
  rw [execAll, exec_of_setpointOf (s := s.present c) h]

/-- A sequence of setpoint writers completes, and leaves the constants that give the next writer its
value. -/
theorem execAll_of_setpoint_writers {ops : List (Instr × Command)} {s : State}
    (h : ∀ q ∈ ops, (setpointOf s.cfg q.2.operands q.1).isSome = true) :
    ∃ u, execAll ops s = .next u ∧ u.cfg = s.cfg := by
  induction ops generalizing s with
  | nil => exact ⟨s, rfl, rfl⟩
  | cons q ops ih =>
    obtain ⟨i, c⟩ := q
    rw [List.forall_mem_cons] at h
    obtain ⟨hhead, htail⟩ := h
    obtain ⟨w, hw⟩ := Option.isSome_iff_exists.mp hhead
    rw [execAll_cons_of_setpointOf hw]
    have hcfg : (((s.present c).writeOnWidth w).complete i okPorts).cfg = s.cfg := by simp
    rw [← hcfg] at htail ⊢
    exact ih htail

/-- Settles O51: the writers before the last one complete with the constants as they were, so the
last one stores the value it has at the start. -/
theorem lastSetpointWriterWins : Obligations.LastSetpointWriterWins := by
  intro s ops i c w hops hlast
  obtain ⟨v, hv, hcfg⟩ := execAll_of_setpoint_writers hops
  rw [← hcfg] at hlast
  refine ⟨((v.present c).writeOnWidth w).complete i okPorts, ?_, by simp⟩
  rw [execAll_append hv, execAll_cons_of_setpointOf hlast, execAll]

/-! ### The samples -/

/-- A byte below 16 bits that are moved up by 8 is their sum. -/
theorem shiftLeft_or_byte (x : BitVec 16) (y : Byte) :
    x <<< 8 ||| y.setWidth 16 = BitVec.ofNat 16 (x.toNat * 256 + y.toNat) := by
  have hdisjoint : x <<< 8 &&& y.setWidth 16 = 0#16 := by
    refine BitVec.eq_of_getLsbD_eq fun k hk => ?_
    by_cases hlow : k < 8
    · simp [hlow]
    · simp [BitVec.getLsbD_of_ge y k (by omega)]
  rw [← BitVec.add_eq_or_of_and_eq_zero _ _ hdisjoint]
  apply BitVec.eq_of_toNat_eq
  simp [Nat.shiftLeft_eq]

/-- The sample of two bytes as a number (R52). -/
theorem rawSample16_toNat (b0 b1 : Byte) :
    (rawSample16 [b0, b1]).toNat = b0.toNat * 256 + b1.toNat := by
  have hsample : rawSample16 [b0, b1] = b0.setWidth 16 <<< 8 ||| b1.setWidth 16 := rfl
  rw [hsample, shiftLeft_or_byte, BitVec.toNat_ofNat, BitVec.toNat_setWidth]
  omega

/-- The ADC sample whose mask keeps the low `bits` bits of byte 1, as a number (R54). -/
theorem adcSample_eq_ofNat {bits : Nat} (hbits : bits ≤ 8) (b0 b1 b2 : Byte) :
    adcSample (BitVec.ofNat 16 (2 ^ bits - 1)) [b0, b1, b2] =
      BitVec.ofNat 16 (b1.toNat % 2 ^ bits * 256 + b2.toNat) := by
  have hmask : (b1.setWidth 16 &&& BitVec.ofNat 16 (2 ^ bits - 1)).toNat =
      b1.toNat % 2 ^ bits := by
    have hbound : 2 ^ bits ≤ 2 ^ 8 := Nat.pow_le_pow_right (by decide) hbits
    rw [BitVec.toNat_and, BitVec.toNat_ofNat, BitVec.toNat_setWidth,
      Nat.mod_eq_of_lt (a := b1.toNat) (by omega), Nat.mod_eq_of_lt (a := 2 ^ bits - 1) (by omega),
      Nat.and_two_pow_sub_one_eq_mod]
  rw [← hmask]
  exact shiftLeft_or_byte _ b2

/-- The ratio of two bytes that both sensor formulas start from (R161, R162). -/
theorem sampleRatio_of_bytes (f : FloatFmt) (b0 b1 : Byte) :
    sampleRatio f (rawSample16 [b0, b1]) =
      Float64.div f (Float64.ofNat f (b0.toNat * 256 + b1.toNat))
        (Float64.literal f false 65536 1) := by
  rw [sampleRatio, rawSample16_toNat]

/-! ### The decoders -/

/-- The `Cmd` event of a codec operation records its buffer and the length (R14, R74). -/
theorem operandList_of_readsBuffer {i : Instr} (h : i.readsBuffer = true) (o : Operands) :
    operandList i o = [.bytes o.bufIn, .len o.lenIn] := by
  cases i with
  | decodeHumidity | decodeTemperatureC | decodeAdc12 | decodeAdc10 | encodePixelFrame => rfl
  | _ => cases h

/-- A codec operation of HOST with the length `n` it asks for drives its result ports and
records its event, and changes nothing else. -/
theorem length_check_of_host {s : State} {i : Instr} {r : ResultPorts} {n : Nat} {buf : List Byte}
    (hi : i.readsBuffer = true) (hhost : s.bus.issuer = .host)
    (hbuf : s.bus.operands.bufIn = buf) (hlen : s.bus.operands.lenIn = n) :
    (if s.bus.operands.lenIn ≠ n then .next (s.wrongLength i) else .next (s.complete i r) :
      Host.Outcome State Fault Refusal) =
    .next { s with
      res := r
      trace := s.trace ++ [.cmd .host i [.bytes buf, .len n] r none] } := by
  have hissuer : (s.drive r).bus.issuer ≠ .seq := by simp [hhost]
  rw [if_neg (not_not.mpr hlen), State.complete, State.recordCmd_of_ne_seq _ _ _ _ hissuer,
    operandList_of_readsBuffer hi, State.drive_bus, hhost, hbuf, hlen]
  rfl

/-- Settles O52: the length is right, and the value is the humidity of the two bytes' sample. -/
theorem humidityContract : Obligations.HumidityContract := by
  intro s b0 b1 hhost hbuf hlen f ratio r
  have hports :
      okF64 (humidity f (rawSample16 s.bus.operands.bufIn)) .relativeHumidityPercent = r := by
    rw [hbuf, humidity, sampleRatio_of_bytes]
    rfl
  rw [← hports]
  exact length_check_of_host rfl hhost hbuf hlen

/-- Settles O54: the length is right, and the value is the temperature of the two bytes' sample. -/
theorem temperatureContract : Obligations.TemperatureContract := by
  intro s b0 b1 hhost hbuf hlen f ratio r
  have hports : okF64 (temperatureC f (rawSample16 s.bus.operands.bufIn)) .celsius = r := by
    rw [hbuf, temperatureC, sampleRatio_of_bytes]
    rfl
  rw [← hports]
  exact length_check_of_host rfl hhost hbuf hlen

/-- Settles O55: the masks 0x0F and 0x03 keep the low 4 and the low 2 bits of byte 1. -/
theorem adcContract : Obligations.AdcContract := by
  intro s b0 b1 b2 hhost hbuf hlen r
  have hports {bits : Nat} (hbits : bits ≤ 8) :
      okInt (adcSample (BitVec.ofNat 16 (2 ^ bits - 1)) s.bus.operands.bufIn) .adcCount =
        r bits := by
    rw [hbuf, adcSample_eq_ofNat hbits]
    rfl
  rw [← hports (bits := 4) (by decide), ← hports (bits := 2) (by decide)]
  exact ⟨length_check_of_host rfl hhost hbuf hlen, length_check_of_host rfl hhost hbuf hlen⟩

end Sys2Proof.Machine
end

section
/-! PROOFS. The decoder and its inverse (R73, R76, R77), and the path of an issued command from the
agenda to its operation or to its refusal (R70, R75, R204, R212). -/

namespace Sys2Proof.Machine

/-! ### The accepted words -/

/-- Every operation has an issuer in the table (R73). -/
theorem exists_allowed_issuer (i : Instr) : ∃ a, i.allowsIssuer a = true := by
  cases i with
  | runCycle | waitFor => exact ⟨.seq, rfl⟩
  | _ => exact ⟨.host, rfl⟩

/-- The word of an operation is the only word that decodes to it (R77). -/
theorem word_of_decode {w : CmdWord} {i : Instr} (h : decode w = .ok i) : w = encode i := by
  obtain ⟨a, hallowed⟩ := exists_allowed_issuer i
  have hissued : decodeFor a w = .ok i := by simp [decodeFor, h, hallowed]
  exact (word_of_decodeFor hissued).1

/-- Different operations have different words. -/
theorem encode_injective : Function.Injective encode := by
  intro i j h
  have hok : (Except.ok i : Except DecodeError Instr) = .ok j := by
    rw [← decode_encode i, h, decode_encode j]
  exact Except.ok.inj hok

/-- The operations, the two edge operations once for each value of their `A` bit (R73). -/
def operations : List Instr :=
  [.start, .stop, .setOnWidth, .runCycle, .fwdEdge false, .fwdEdge true, .bwdEdge false,
    .bwdEdge true, .now, .frequency, .waitFor, .decodeHumidity, .decodeTemperatureC, .decodeAdc12,
    .decodeAdc10, .encodePixelFrame]

theorem mem_operations (i : Instr) : i ∈ operations := by
  cases i with
  | fwdEdge active | bwdEdge active => cases active <;> decide
  | _ => decide

/-- The accepted words are the words of the operations. -/
theorem decode_accepts_iff (w : CmdWord) :
    (∃ i, decode w = .ok i) ↔ w ∈ operations.map encode := by
  rw [List.mem_map]
  constructor
  · rintro ⟨i, hdecode⟩
    exact ⟨i, mem_operations i, (word_of_decode hdecode).symm⟩
  · rintro ⟨i, _, rfl⟩
    exact ⟨i, decode_encode i⟩

/-- Settles O2: `encode` is a section of `decode` and its only preimage, so the accepted words are
the images of the 16 operations under an injective map. -/
theorem decodeAcceptsExactlyTheEncodedWords : Obligations.DecodeAcceptsExactlyTheEncodedWords := by
  refine ⟨decode_encode, fun _ _ => word_of_decode, fun w => ?_, operations.map encode, rfl,
    List.Nodup.map encode_injective (by decide), decode_accepts_iff⟩
  cases hdecode : decode w with
  | ok i => exact .inl ⟨i, rfl⟩
  | error e => exact .inr ⟨e, rfl⟩

/-! ### The refused words -/

/-- The value of OPC (R70). -/
theorem toNat_opcField (w : CmdWord) : (opcField w).toNat = w.toNat / 256 := by
  have hw := w.isLt
  rw [opcField, BitVec.extractLsb'_toNat, Nat.shiftRight_eq_div_pow]
  omega

/-- The value of RSV (R70). -/
theorem toNat_rsvField (w : CmdWord) : (rsvField w).toNat = w.toNat / 2 % 128 := by
  rw [rsvField, BitVec.extractLsb'_toNat, Nat.shiftRight_eq_div_pow]

theorem rsvField_eq_zero_iff (w : CmdWord) : rsvField w = 0 ↔ w.toNat / 2 % 128 = 0 := by
  rw [← toNat_rsvField]
  exact BitVec.toNat_inj.symm

/-- The value of `A` (R70). -/
theorem aField_eq_true_iff (w : CmdWord) : aField w = true ↔ w.toNat % 2 = 1 := by
  simp [aField, BitVec.getLsbD, Nat.testBit_zero]

/-- The OPC values with no operation are those of R72. -/
theorem opcodeInstr_eq_none_iff (opc : Byte) (a : Bool) :
    opcodeInstr opc a = none ↔
      opc.toNat = 0x00 ∨ (0x05 ≤ opc.toNat ∧ opc.toNat ≤ 0x07) ∨
        (0x0A ≤ opc.toNat ∧ opc.toNat ≤ 0x0F) ∨ (0x13 ≤ opc.toNat ∧ opc.toNat ≤ 0x1F) ∨
        (0x25 ≤ opc.toNat ∧ opc.toNat ≤ 0xFF) := by
  have hopc := opc.isLt
  unfold opcodeInstr
  split
  case h_15 =>
    simp only [imp_false, true_iff] at *
    omega
  all_goals exact iff_of_false nofun (by omega)

/-- The edge operations are those of OPC 0x08 and 0x09 (R70, R73). -/
theorem hasActiveBit_iff_opcode (i : Instr) :
    i.hasActiveBit = true ↔ i.opcode.toNat = 0x08 ∨ i.opcode.toNat = 0x09 := by
  cases i with
  | fwdEdge active | bwdEdge active => cases active <;> decide
  | _ => decide

/-- The issuer column of the model is the table's (R73). -/
theorem allowsIssuer_iff_mem_issuerTable (i : Instr) (a : Issuer) :
    i.allowsIssuer a = true ↔ (i.opcode.toNat, a) ∈ issuerTable := by
  cases i with
  | fwdEdge active | bwdEdge active => cases active <;> cases a <;> decide
  | _ => cases a <;> decide

/-- What it takes for a word to decode for an issuer: none of the four grounds of R76. -/
theorem decodeFor_ok_iff {a : Issuer} {w : CmdWord} {i : Instr} :
    decodeFor a w = .ok i ↔
      opcodeInstr (opcField w) (aField w) = some i ∧ rsvField w = 0 ∧
        (aField w = true → i.hasActiveBit = true) ∧ i.allowsIssuer a = true := by
  constructor
  · intro h
    obtain ⟨hdecode, hallowed⟩ := decodeFor_ok h
    obtain ⟨hinstr, hrsv, hbit⟩ := decode_fields hdecode
    exact ⟨hinstr, hrsv, hbit, hallowed⟩
  · rintro ⟨hinstr, hrsv, hbit, hallowed⟩
    have hstray : (aField w && !i.hasActiveBit) = false := by simpa using hbit
    simp [decodeFor, decode, hinstr, hrsv, hallowed, hstray]

/-- The decoder refuses a word that decodes to no operation. -/
theorem decodeFor_error_iff {a : Issuer} {w : CmdWord} :
    (∃ e, decodeFor a w = .error e) ↔ ∀ i, decodeFor a w ≠ .ok i := by
  cases decodeFor a w <;> simp

/-- A word with an unassigned OPC is refused for every issuer (R76(a)). -/
theorem decodeFor_error_of_unassigned {w : CmdWord}
    (h : opcodeInstr (opcField w) (aField w) = none) (a : Issuer) :
    ∃ e, decodeFor a w = .error e := by
  simp [decodeFor_error_iff, decodeFor_ok_iff, h]

/-- A word with an assigned OPC is refused on the grounds (b), (c) and (d) of R76. -/
theorem decodeFor_error_iff_of_assigned {w : CmdWord} {i : Instr}
    (h : opcodeInstr (opcField w) (aField w) = some i) (a : Issuer) :
    (∃ e, decodeFor a w = .error e) ↔
      rsvField w ≠ 0 ∨ (aField w = true ∧ ¬ i.hasActiveBit = true) ∨
        ¬ i.allowsIssuer a = true := by
  have hgrounds : (∃ e, decodeFor a w = .error e) ↔
      ¬ (rsvField w = 0 ∧ (aField w = true → i.hasActiveBit = true) ∧
        i.allowsIssuer a = true) := by
    simp only [decodeFor_error_iff, ne_eq, decodeFor_ok_iff, h, Option.some.injEq, not_and,
      forall_eq']
  rw [hgrounds, not_and_or, not_and_or, Classical.not_imp]

/-- Settles O3: an unassigned OPC is refused at once; an assigned one names an operation, whose
`A` bit and issuers the table gives by that OPC. -/
theorem refusedExactlyByTheFourGrounds : Obligations.RefusedExactlyByTheFourGrounds := by
  intro a w
  set opc := w.toNat / 256
  have hopc : (opcField w).toNat = opc := toNat_opcField w
  have hunassigned := opcodeInstr_eq_none_iff (opcField w) (aField w)
  rw [hopc] at hunassigned
  cases hinstr : opcodeInstr (opcField w) (aField w) with
  | none =>
    exact iff_of_true (decodeFor_error_of_unassigned hinstr a) (.inl (hunassigned.mp hinstr))
  | some i =>
    have hassigned : opcodeInstr (opcField w) (aField w) ≠ none := by simp [hinstr]
    have hcode : i.opcode.toNat = opc := by rw [← (opcodeInstr_some hinstr).1, hopc]
    rw [decodeFor_error_iff_of_assigned hinstr, or_iff_right (mt hunassigned.mpr hassigned),
      ne_eq, rsvField_eq_zero_iff, aField_eq_true_iff, hasActiveBit_iff_opcode,
      allowsIssuer_iff_mem_issuerTable, hcode, not_or]

/-! ### The table -/

/-- Settles O1: each word of the table is the encoding of its operation. -/
theorem commandWordTable : Obligations.CommandWordTable :=
  ⟨decode_encode .start, decode_encode .stop, decode_encode .setOnWidth, decode_encode .runCycle,
    decode_encode (.fwdEdge false), decode_encode (.fwdEdge true), decode_encode (.bwdEdge false),
    decode_encode (.bwdEdge true), decode_encode .now, decode_encode .frequency,
    decode_encode .waitFor, decode_encode .decodeHumidity, decode_encode .decodeTemperatureC,
    decode_encode .decodeAdc12, decode_encode .decodeAdc10, decode_encode .encodePixelFrame,
    allowsIssuer_iff_mem_issuerTable⟩

/-! ### An issued command -/

/-- The step that a settled command takes is the service of that command (R212). -/
theorem step_of_issue {s : State} {c : Command} {rest : List Move}
    (h : s.agenda = .issue c :: rest) : step s = serve c { s with agenda := rest } := by
  rw [step, takeMove_of_cons h, makeMove]

/-- A word that the decoder refuses for its issuer is refused (R76, R204). -/
theorem serve_of_error {c : Command} {e : DecodeError} (h : decodeFor c.issuer c.word = .error e)
    (s : State) : serve c s = .next s.refuse := by
  rw [serve, h]

/-- A command whose ports go with its operation runs what its agent runs for it. -/
theorem serve_of_serves {s : State} {c : Command} {i j : Instr}
    (hdecode : decodeFor c.issuer c.word = .ok i) (hserves : s.serves c.issuer i = some j)
    (hports : i.operandsOk s.fmt c.operands = true) : serve c s = exec j (s.present c) := by
  simp [serve, hdecode, hserves, hports]

/-- A command whose ports disagree with its operation is no step, whether or not its agent has one
(R75). -/
theorem serve_of_unissuable {s : State} {c : Command} {i : Instr}
    (hdecode : decodeFor c.issuer c.word = .ok i)
    (hports : i.operandsOk s.fmt c.operands = false) : serve c s = .next s := by
  cases hserves : s.serves c.issuer i with
  | none => simp [serve, hdecode, hserves]
  | some j => simp [serve, hdecode, hserves, hports]

/-- An agent runs the operation it issues: HOST and EDGE always, SEQ while RUNNING outside a
WAIT_FOR, and then a word other than RUN_CYCLE inside a cycle only. -/
theorem serves_self {s : State} {a : Issuer} {i : Instr}
    (h : a = .seq → s.genState = .running ∧ s.waitOp = false ∧
      (i = .runCycle ∨ s.seqPh.polls = false ∧ s.seqPh ≠ .cycStart)) :
    s.serves a i = some i := by
  by_cases hseq : a = .seq
  · obtain ⟨hrun, hop, hplace⟩ := h hseq
    rw [hseq, State.serves, State.seqServes, if_neg (not_not.mpr hrun)]
    by_cases hcycle : i = .runCycle
    · simp [hcycle, hop]
    · obtain ⟨hpoll, hph⟩ := hplace.resolve_left hcycle
      simp [hcycle, hop, hpoll, hph]
  · exact serves_of_ne_seq hseq i

/-- Settles O5: the command is decoded, its agent runs that operation, and its ports go with it. -/
theorem stepRunsTheIssuedCommand : Obligations.StepRunsTheIssuedCommand := by
  intro s c rest i hagenda hdecode hports hturn
  rw [step_of_issue hagenda]
  exact serve_of_serves hdecode (serves_self hturn) hports

/-- Settles O6: the decoder's refusal comes before everything else in the service of a command. -/
theorem refusedWordSetsOnlyTheMark : Obligations.RefusedWordSetsOnlyTheMark := by
  intro s c rest e hagenda herror
  rw [step_of_issue hagenda]
  exact serve_of_error herror _

/-- Settles O8: the ports are tested before the operation runs. -/
theorem unissuableOperandsAreNoStep : Obligations.UnissuableOperandsAreNoStep := by
  intro s c rest i hagenda hdecode hports
  rw [step_of_issue hagenda]
  exact serve_of_unissuable hdecode hports

end Sys2Proof.Machine
end

section
/-! PROOFS. What an operation records and what it leaves alone: the clock, the agenda, and the order
of the ticks of the trace (R101, R128, R212). -/

namespace Sys2Proof.Machine

/-! ### Recording events -/

/-- The tick, the moves that are settled and the trace. -/
def State.log (s : State) : Nat × List Move × Nat × List Event :=
  (s.t, s.agenda, s.turn, s.trace)

/-- From `s` to `u` events are recorded, the ticks of which are the current tick; the clock and the
moves to come stay as they are. -/
structure Records (s u : State) : Prop where
  t : u.t = s.t
  agenda : u.agenda = s.agenda
  turn : u.turn = s.turn
  trace : ∃ events, u.trace = s.trace ++ events ∧ ∀ x ∈ traceTicks events, x = s.t

theorem Records.refl (s : State) : Records s s where
  t := rfl
  agenda := rfl
  turn := rfl
  trace := ⟨[], by simp, by simp [traceTicks]⟩

section
variable {s v w : State} (h : Records s v)
include h

/-- Writes of other registers afterwards record nothing more. -/
theorem Records.of_log_eq (hlog : w.log = v.log) : Records s w := by
  obtain ⟨ht, hagenda, hturn, htrace⟩ :
      w.t = v.t ∧ w.agenda = v.agenda ∧ w.turn = v.turn ∧ w.trace = v.trace := by
    simpa [State.log] using hlog
  exact ⟨ht.trans h.t, hagenda.trans h.agenda, hturn.trans h.turn, htrace ▸ h.trace⟩

/-- One more event at the current tick, or without a tick. -/
theorem Records.record {e : Event} (he : eventTick e = none ∨ eventTick e = some v.t) :
    Records s (v.record e) where
  t := h.t
  agenda := h.agenda
  turn := h.turn
  trace := by
    obtain ⟨events, htrace, hticks⟩ := h.trace
    refine ⟨events ++ [e], by simp [htrace], fun x hx => ?_⟩
    rw [traceTicks, List.filterMap_append, List.mem_append] at hx
    refine hx.elim (hticks x) fun hx => ?_
    obtain he | he := he <;> simp [he] at hx
    exact hx.trans h.t

theorem Records.readClock : Records s v.readClock := h.record (.inr rfl)

theorem Records.recordCmd (i : Instr) (r : ResultPorts) (o : Option OperandValue) :
    Records s (v.recordCmd i r o) := by
  unfold State.recordCmd
  split
  · exact h
  · exact h.record (.inl rfl)
  · exact h.record (.inl rfl)

end

/-- Writes of other registers record nothing. -/
theorem Records.of_writes {s v : State} (hlog : v.log = s.log) : Records s v :=
  (Records.refl s).of_log_eq hlog

section
variable {s v : State}

/-- An event without a tick, after register writes. -/
theorem records_record {e : Event} (he : eventTick e = none) (hlog : v.log = s.log := by rfl) :
    Records s (v.record e) :=
  (Records.of_writes hlog).record (.inl he)

/-- `return`, after register writes. -/
theorem records_complete {i : Instr} {r : ResultPorts} (hlog : v.log = s.log := by rfl) :
    Records s (v.complete i r) :=
  (Records.of_writes (v := v.drive r) hlog).recordCmd i r none

/-- `raise`, after register writes. -/
theorem records_raise {i : Instr} {e : Status} {o : Option OperandValue}
    (hlog : v.log = s.log := by rfl) : Records s (v.raise i e o) :=
  (Records.of_writes (v := v.drive (raisePorts e)) hlog).recordCmd i (raisePorts e) o

end

section
variable (s : State)

/-- A poll records at most its clock read, when what follows the wait records nothing. -/
theorem records_waitPoll {after : State → State} (hafter : ∀ v, (after v).log = v.log) :
    Records s (s.waitPoll after) := by
  obtain ⟨_, h⟩ | ⟨_, _, h⟩ | ⟨_, _, h⟩ := waitPoll_cases s after <;> rw [h]
  · exact Records.of_writes rfl
  · exact (Records.refl s).readClock.of_log_eq (hafter _)
  · exact (Records.refl s).readClock

/-- A wait entry records its clock read. -/
theorem records_waitEntry (dur : F64) : Records s (s.waitEntry dur) :=
  (Records.refl s).readClock.of_log_eq rfl

theorem records_cycStartStep : Records s (cycStartStep s) := by
  obtain ⟨_, h⟩ | ⟨_, h⟩ := cycStartStep_cases s <;> rw [h]
  · exact records_record (by rfl)
  · exact records_record (by rfl)

theorem records_hiWaitEnterStep : Records s (hiWaitEnterStep s) := by
  unfold hiWaitEnterStep
  split
  · exact (records_waitEntry s s.wSnap).of_log_eq rfl
  · exact Records.of_writes rfl

theorem records_loWaitEnterStep : Records s (loWaitEnterStep s) := by
  unfold loWaitEnterStep
  split
  · exact (records_waitEntry s s.lowWait).of_log_eq rfl
  · exact Records.of_writes rfl

end

section
variable {s u : State}

/-- A pin write records its event, when the phase change after it records nothing. -/
theorem records_pinWrite {level : Level} {after : State → State}
    (h : s.pinWrite level after = .next u) (hafter : ∀ v, (after v).log = v.log) :
    Records s u := by
  obtain ⟨_, rfl⟩ := pinWrite_next h
  have hwrite : Records s (s.record (.pin s.t level s.bus.pinAnswer)) :=
    (Records.refl s).record (.inr rfl)
  exact hwrite.of_log_eq (hafter _)

theorem records_execRunCycle (h : execRunCycle s = .next u) : Records s u := by
  unfold execRunCycle at h
  split at h
  case isFalse => cases h; exact Records.refl s
  case isTrue =>
    cases hph : s.seqPh <;> rw [hph] at h
    case cycStart => cases h; exact records_cycStartStep s
    case hiWrite => exact records_pinWrite h fun _ => rfl
    case hiWaitEnter => cases h; exact records_hiWaitEnterStep s
    case hiPoll => cases h; exact records_waitPoll s fun _ => rfl
    case loWrite => exact records_pinWrite h fun _ => rfl
    case loWaitEnter => cases h; exact records_loWaitEnterStep s
    case loPoll => cases h; exact records_waitPoll s fun _ => rfl

theorem records_execWaitFor (h : execWaitFor s = .next u) : Records s u := by
  unfold execWaitFor at h
  split at h
  · cases h
    exact records_waitPoll s fun _ => rfl
  · split at h <;> cases h
    · exact (records_waitEntry s s.bus.operands.durIn).of_log_eq rfl
    · exact Records.refl s

theorem records_execStart (h : execStart s = .next u) : Records s u := by
  unfold execStart at h
  dsimp only at h
  split at h
  · cases h
    exact Records.of_writes rfl
  · split at h
    · cases h
      exact records_raise
    · split at h <;> cases h
      · exact records_raise
      · exact records_complete

theorem records_execStop (h : execStop s = .next u) : Records s u := by
  unfold execStop at h
  split at h <;> cases h
  · exact records_complete
  · exact records_complete

/-- An operation that checks its length records its event at either end. -/
theorem records_of_length_check {i : Instr} {r : ResultPorts} {wrong : Prop} [Decidable wrong]
    (h : (if wrong then .next (s.wrongLength i) else .next (s.complete i r) :
      Host.Outcome State Fault Refusal) = .next u) : Records s u := by
  split at h <;> cases h
  · exact records_raise
  · exact records_complete

/-- Every operation records events of the current tick and leaves the clock and the agenda. -/
theorem records_exec {i : Instr} (h : exec i s = .next u) : Records s u := by
  cases i with
  | start => exact records_execStart h
  | stop => exact records_execStop h
  | setOnWidth | fwdEdge | bwdEdge => cases h; exact records_complete
  | runCycle => exact records_execRunCycle h
  | now =>
    cases h
    have hread : Records s (s.readClock.drive (okTick s.t)) :=
      (Records.refl s).readClock.of_log_eq rfl
    exact hread.recordCmd ..
  | frequency => cases h; exact records_complete
  | waitFor => exact records_execWaitFor h
  | decodeHumidity => exact records_of_length_check h
  | decodeTemperatureC => exact records_of_length_check h
  | decodeAdc12 => exact records_of_length_check h
  | decodeAdc10 => exact records_of_length_check h
  | encodePixelFrame => exact records_of_length_check h

/-- So does the service of every command. -/
theorem records_serve {c : Command} (h : serve c s = .next u) : Records s u := by
  obtain ⟨rfl, _⟩ | ⟨rfl, _⟩ | ⟨i, j, _, _, _, hexec⟩ := serve_next h
  · exact Records.refl _
  · exact Records.of_writes rfl
  · obtain ⟨ht, hagenda, hturn, htrace⟩ := records_exec hexec
    exact ⟨ht, hagenda, hturn, htrace⟩

/-! ### The order of the ticks -/

/-- Events of the current tick keep the trace in order. -/
theorem Records.ticksOrdered (h : Records s u) (hs : s.ticksOrdered) : u.ticksOrdered := by
  obtain ⟨events, htrace, hticks⟩ := h.trace
  obtain ⟨hsorted, hbound⟩ := hs
  have hsplit : traceTicks u.trace = traceTicks s.trace ++ traceTicks events := by
    rw [htrace, traceTicks, List.filterMap_append]
    rfl
  rw [State.ticksOrdered, hsplit, h.t]
  refine ⟨List.pairwise_append.mpr ⟨hsorted, ?_, fun x hx y hy => ?_⟩, fun x hx => ?_⟩
  · exact List.pairwise_of_forall_mem_list fun x hx y hy => by rw [hticks x hx, hticks y hy]
  · exact hticks y hy ▸ hbound x hx
  · exact (List.mem_append.mp hx).elim (hbound x) fun hx => (hticks x hx).le

/-- A tick of the unbounded counter keeps the trace in order. -/
theorem State.ticksOrdered_clockTick (hbits : s.cfg.tickBits = none) (hs : s.ticksOrdered) :
    s.clockTick.ticksOrdered := by
  obtain ⟨hsorted, hbound⟩ := hs
  refine ⟨hsorted, fun x hx => ?_⟩
  rw [State.clockTick_t, nextTick_of_unbounded hbits]
  exact (hbound x hx).trans (Nat.le_succ _)

end

/-- Settles O44: CLK's step takes the current tick further and records nothing; every command
records events of the current tick only. -/
theorem everyStepKeepsTheTicksOrdered : Obligations.EveryStepKeepsTheTicksOrdered := by
  intro s u hbits hs h
  obtain ⟨l, n, htake⟩ := takeMove_snd s
  have hmove : s.takeMove.2.ticksOrdered ∧ s.takeMove.2.cfg.tickBits = none := by
    rw [htake]
    exact ⟨hs, hbits⟩
  obtain ⟨hordered, hbits⟩ := hmove
  obtain ⟨_, rfl⟩ | ⟨c, _, hserve⟩ := step_next h
  · exact State.ticksOrdered_clockTick hbits hordered
  · exact (records_serve hserve).ticksOrdered hordered

end Sys2Proof.Machine
end

section
/-! PROOFS. The steps of CLK and of a wait: what a tick, a wait entry and a poll write, and which
steps SEQ takes while it waits (R100, R103 to R112, R133, R136). -/

namespace Sys2Proof.Machine

/-! ### CLK -/

/-- The step that a settled tick takes is CLK's (R212). -/
theorem step_of_clk {s : State} {rest : List Move} (h : s.agenda = .clk :: rest) :
    step s = .next (State.clockTick { s with agenda := rest }) := by
  rw [step, takeMove_of_cons h, makeMove]

/-- A counter of `n` bits adds one below its last tick. -/
theorem nextTick_of_lt {p : Params} {n t : Nat} (hbits : p.tickBits = some n)
    (hlt : t + 1 < 2 ^ n) : nextTick p t = t + 1 := by
  simp [nextTick, hbits, Nat.mod_eq_of_lt hlt]

/-- A counter of `n` bits goes on from 0 after its last tick. -/
theorem nextTick_of_last {p : Params} {n t : Nat} (hbits : p.tickBits = some n)
    (hlast : t + 1 = 2 ^ n) : nextTick p t = 0 := by
  simp [nextTick, hbits, hlast]

/-- A tick that does not wrap changes the tick alone. -/
theorem clockTick_of_succ {s : State} (h : nextTick s.cfg s.t = s.t + 1) :
    s.clockTick = { s with t := s.t + 1 } := by
  simp [State.clockTick, h]

/-- A tick that wraps sets the wrap mark. -/
theorem clockTick_of_wrap {s : State} (h : nextTick s.cfg s.t = 0) :
    s.clockTick = { s with t := 0, wrapped := true } := by
  simp [State.clockTick, h]

/-- Settles O12: the three cases are those of the tick after `T`. -/
theorem clockStepAddsOneTick : Obligations.ClockStepAddsOneTick := by
  intro s rest hagenda
  rw [step_of_clk hagenda]
  refine ⟨fun hbits => ?_, fun n hbits hlt => ?_, fun n hbits hlast => ?_⟩
  · exact congrArg _ (clockTick_of_succ (nextTick_of_unbounded hbits _))
  · exact congrArg _ (clockTick_of_succ (nextTick_of_lt hbits hlt))
  · exact congrArg _ (clockTick_of_wrap (nextTick_of_last hbits hlast))

/-! ### FREQUENCY -/

/-- FREQUENCY is issued as the word 0x1100, by HOST and by SEQ. -/
theorem frequency_issuedAs : IssuedAs .frequency 0x1100 [.host, .seq] := by
  refine ⟨by decide, fun a => ?_⟩
  cases a <;> decide

/-- Settles O15: FREQUENCY drives its ports, and records the event of the operation for HOST. -/
theorem frequencyReturnsTheTickRate : Obligations.FrequencyReturnsTheTickRate := by
  refine ⟨frequency_issuedAs, fun s => ⟨fun hhost => ?_, fun hseq => ?_⟩⟩
  · have hne : (s.drive (okTick s.cfg.fTick)).bus.issuer ≠ .seq := by simp [hhost]
    simp only [exec, execFrequency, State.complete, State.recordCmd_of_ne_seq _ _ _ _ hne]
    simp [State.record, State.drive, okTick, operandList, hhost]
  · have heq : (s.drive (okTick s.cfg.fTick)).bus.issuer = .seq := hseq
    simp only [exec, execFrequency, State.complete, State.recordCmd_of_seq _ _ _ _ heq]
    rfl

/-! ### WAIT_FOR and the polls -/

section
variable {s : State}

/-- With a WAIT_FOR in progress its step is a poll. -/
theorem exec_waitFor_of_waitOp (h : s.waitOp = true) :
    exec .waitFor s = .next (s.waitPoll fun u => { u with waitOp := false }) := by
  simp [exec, execWaitFor, h]

/-- The step that begins a WAIT_FOR. -/
theorem exec_waitFor_of_gt (hop : s.waitOp = false)
    (hgt : Float64.gt s.fmt s.bus.operands.durIn posZero = true) :
    exec .waitFor s = .next { s.waitEntry s.bus.operands.durIn with waitOp := true } := by
  simp [exec, execWaitFor, State.waitNeeded, hop, hgt]

/-- The step of a WAIT_FOR with nothing to wait for. -/
theorem exec_waitFor_of_not_gt (hop : s.waitOp = false)
    (hgt : Float64.gt s.fmt s.bus.operands.durIn posZero = false) :
    exec .waitFor s = .next s := by
  simp [exec, execWaitFor, State.waitNeeded, hop, hgt]

/-- The poll that ends a wait. -/
theorem waitPoll_of_over (hwrap : s.wrapped = false) (hover : s.waitOver = true)
    (after : State → State) : s.waitPoll after = after s.readClock := by
  simp [State.waitPoll, hwrap, hover]

/-- The poll of a wait that goes on reads the clock and does nothing else. -/
theorem waitPoll_of_not_over (hwrap : s.wrapped = false) (hover : s.waitOver = false)
    (after : State → State) : s.waitPoll after = s.readClock := by
  simp [State.waitPoll, hwrap, hover]

/-- A wait of infinite length is never over (R110). -/
theorem waitOver_of_infinite (h : s.waitDelta = Float64.infinity s.fmt false) :
    s.waitOver = false := by
  simp [State.waitOver, Float64.natGe, h, Float64.unpack_infinity]

/-- RUN_CYCLE in a poll phase is a poll of its wait. -/
theorem exec_runCycle_of_polls (hrun : s.genState = .running) (hph : s.seqPh.polls = true) :
    ∃ after, exec .runCycle s = .next (s.waitPoll after) := by
  cases hseq : s.seqPh with
  | hiPoll =>
    exact ⟨fun u => { u with seqPh := .loWrite },
      by simp [exec, execRunCycle, hiPollStep, hrun, hseq]⟩
  | loPoll =>
    exact ⟨fun u => { u with seqPh := .cycStart },
      by simp [exec, execRunCycle, loPollStep, hrun, hseq]⟩
  | cycStart | hiWrite | hiWaitEnter | loWrite | loWaitEnter => simp [hseq, SeqPhase.polls] at hph

end

/-- Settles O16: the entry step is taken when the duration is above 0.0. -/
theorem waitForBeginsOrReturnsAtOnce : Obligations.WaitForBeginsOrReturnsAtOnce :=
  fun _ hop => ⟨exec_waitFor_of_gt hop, exec_waitFor_of_not_gt hop⟩

/-- Settles O17: with a WAIT_FOR in progress its step is a poll, which ends the wait or goes on. -/
theorem waitForPollEndsWhenTheTicksHaveElapsed :
    Obligations.WaitForPollEndsWhenTheTicksHaveElapsed := by
  intro s hop hwrap
  rw [exec_waitFor_of_waitOp hop]
  refine ⟨fun hover => ?_, fun hover => ?_⟩
  · rw [waitPoll_of_over hwrap hover]
    rfl
  · rw [waitPoll_of_not_over hwrap hover]
    rfl

/-- Settles O21: no poll of a wait of infinite length ends it. -/
theorem waitOfInfiniteLengthNeverEnds : Obligations.WaitOfInfiniteLengthNeverEnds := by
  intro s hinf hwrap
  have hpoll := waitPoll_of_not_over hwrap (waitOver_of_infinite hinf)
  refine ⟨fun hop => ?_, fun hrun hph => ?_⟩
  · rw [exec_waitFor_of_waitOp hop, hpoll]
    rfl
  · obtain ⟨after, hexec⟩ := exec_runCycle_of_polls hrun hph
    rw [hexec, hpoll]
    rfl

/-! ### The wait-entry phases -/

section
variable {s : State} (hrun : s.genState = .running)
include hrun

theorem exec_runCycle_of_hiWaitEnter (hph : s.seqPh = .hiWaitEnter) :
    exec .runCycle s = .next (hiWaitEnterStep s) := by
  simp [exec, execRunCycle, hrun, hph]

theorem exec_runCycle_of_loWaitEnter (hph : s.seqPh = .loWaitEnter) :
    exec .runCycle s = .next (loWaitEnterStep s) := by
  simp [exec, execRunCycle, hrun, hph]

end

/-- Settles O30: each wait-entry phase enters its wait when the duration is above 0.0, and passes on
otherwise. -/
theorem waitEnterPhases : Obligations.WaitEnterPhases := by
  intro s hrun d
  refine ⟨fun hph hgt => ?_, fun hph hgt => ?_, fun hph hgt => ?_, fun hph hgt => ?_⟩
  · rw [exec_runCycle_of_hiWaitEnter hrun hph]
    exact congrArg _ (if_neg (ne_true_of_eq_false hgt))
  · rw [exec_runCycle_of_hiWaitEnter hrun hph]
    exact congrArg _ (if_pos hgt)
  · rw [exec_runCycle_of_loWaitEnter hrun hph]
    exact congrArg _ (if_pos hgt)
  · rw [exec_runCycle_of_loWaitEnter hrun hph]
    exact congrArg _ (if_neg (ne_true_of_eq_false hgt))

/-! ### SEQ in a wait -/

section
variable {s : State} {i : Instr}

/-- SEQ's own turn, with a WAIT_FOR in progress, is a step of that WAIT_FOR (R112). -/
theorem serves_runCycle_of_waitOp (hrun : s.genState = .running) (hop : s.waitOp = true) :
    s.serves .seq .runCycle = some .waitFor := by
  simp [State.serves, State.seqServes, hrun, hop]

/-- SEQ's other words are no steps in a wait (R112). -/
theorem serves_eq_none_of_wait (hi : i ≠ .runCycle)
    (hwait : s.waitOp = true ∨ s.seqPh.polls = true) : s.serves .seq i = none := by
  obtain hwait | hwait := hwait <;> simp [State.serves, State.seqServes, hi, hwait]

/-- A command that is no step of its agent changes nothing. -/
theorem serve_of_serves_none {c : Command} (hdecode : decodeFor c.issuer c.word = .ok i)
    (hserves : s.serves c.issuer i = none) : serve c s = .next s := by
  simp [serve, hdecode, hserves]

end

/-- Settles O11: SEQ's turn in a WAIT_FOR is a step of that, and in a poll phase the phase step; its
other words are no steps. -/
theorem seqInAWaitTakesOnlyPollSteps : Obligations.SeqInAWaitTakesOnlyPollSteps := by
  intro s c rest i hagenda hseq hdecode hrun
  rw [← hseq] at hdecode
  refine ⟨?_, ?_, fun hi hwait => ?_⟩
  · rintro rfl hop
    rw [step_of_issue hagenda]
    refine serve_of_serves hdecode ?_ rfl
    rw [hseq]
    exact serves_runCycle_of_waitOp hrun hop
  · rintro rfl hop _
    exact stepRunsTheIssuedCommand s c rest _ hagenda hdecode rfl fun _ => ⟨hrun, hop, .inl rfl⟩
  · rw [step_of_issue hagenda]
    refine serve_of_serves_none hdecode ?_
    rw [hseq]
    exact serves_eq_none_of_wait hi hwait

end Sys2Proof.Machine
end

section
/-! PROOFS. The length of a wait: the exact poll test against it (R106, R108), and its range
(R107). -/

namespace Sys2Proof.Float64

open Sys2Proof.Machine

/-! ### +0.0 -/

theorem zero_false_eq_posZero (f : FloatFmt) : zero f false = posZero := by
  cases f <;> rfl

theorem unpack_posZero (f : FloatFmt) : unpack f posZero = .fin false 0 f.minExp := by
  cases f <;> decide

theorem real_posZero (f : FloatFmt) : real f posZero = 0 := by
  simp [real_of_unpack (unpack_posZero f)]

/-! ### The poll test -/

/-- A natural is at least a quotient of naturals exactly when it is at least its ceiling. -/
theorem cdiv_le_iff {a b : Nat} (hb : 0 < b) (n : Nat) : cdiv a b ≤ n ↔ a ≤ n * b := by
  rw [cdiv, ← Nat.ceilDiv_eq_add_pred_div, ceilDiv_le_iff_le_mul hb, Nat.mul_comm]

/-- The value `m · 2^e` against a natural, brought to naturals on both sides. -/
theorem mul_two_zpow_le_iff (m n : Nat) (e : Int) :
    (m : Rat) * 2 ^ e ≤ n ↔ m * 2 ^ e.toNat ≤ n * 2 ^ (-e).toNat := by
  have hpos : (0 : Rat) < 2 ^ (-e).toNat := by positivity
  have hpow : (2 : Rat) ^ e * 2 ^ (-e).toNat = 2 ^ e.toNat := by
    rw [← zpow_natCast, ← zpow_natCast, ← zpow_add₀ two_ne_zero]
    congr 1
    omega
  rw [← mul_le_mul_iff_left₀ hpos, mul_assoc, hpow]
  norm_cast

section
variable {f : FloatFmt} {x : F64} (hx : isFinite f x = true) (hge : ge f x posZero = true)
include hx hge

theorem real_nonneg_of_ge : 0 ≤ real f x := by
  rw [← real_posZero f]
  exact (ge_iff_real hx (isFinite_posZero f)).mp hge

/-- A finite value of at least 0.0 is -0.0 or has no sign. -/
theorem unpack_of_ge : (∃ e, unpack f x = .fin true 0 e) ∨ ∃ m e, unpack f x = .fin false m e := by
  obtain ⟨s, m, e, hunpack⟩ := isFinite_iff.mp hx
  cases s with
  | false => exact .inr ⟨m, e, hunpack⟩
  | true =>
    have hnonneg := real_nonneg_of_ge hx hge
    have hpow : (0 : Rat) < 2 ^ e := by positivity
    rw [real_of_unpack hunpack, sign, if_pos rfl, neg_one_mul, neg_mul, neg_nonneg] at hnonneg
    have hm : (m : Rat) ≤ 0 := nonpos_of_mul_nonpos_left hnonneg hpow
    obtain rfl : m = 0 := Nat.le_zero.mp (by exact_mod_cast hm)
    exact .inl ⟨e, hunpack⟩

/-- The poll test compares with the real value. -/
theorem natGe_iff_real_le (n : Nat) : natGe f n x = true ↔ real f x ≤ n := by
  obtain ⟨e, h⟩ | ⟨m, e, h⟩ := unpack_of_ge hx hge
  · simp [natGe, h, real_of_unpack h]
  · simp [natGe, h, real_of_unpack h, sign, mul_two_zpow_le_iff]

/-- `ceilNat` is the least natural that is at least the real value. -/
theorem ceilNat_le_iff_real_le (n : Nat) : ceilNat f x ≤ n ↔ real f x ≤ n := by
  obtain ⟨e, h⟩ | ⟨m, e, h⟩ := unpack_of_ge hx hge
  · simp [ceilNat, h, real_of_unpack h]
  · simp [ceilNat, h, real_of_unpack h, sign, mul_two_zpow_le_iff, cdiv_le_iff]

theorem ceilNat_eq_ceil_real : (ceilNat f x : Int) = ⌈real f x⌉ := by
  rw [← Int.natCast_ceil_eq_ceil (real_nonneg_of_ge hx hge), Nat.cast_inj]
  exact eq_of_forall_ge_iff fun n => by rw [ceilNat_le_iff_real_le hx hge, Nat.ceil_le]

end

/-- Settles O20: the poll test and the test against `ceilNat` are both the comparison of the natural
with the real value. -/
theorem pollTestIsTheCeilingTest : Obligations.PollTestIsTheCeilingTest := by
  intro f x hx hge
  refine ⟨ceilNat_eq_ceil_real hx hge, fun n => ?_, ?_⟩
  · rw [natGe_iff_real_le hx hge, ceilNat_le_iff_real_le hx hge]
  · rintro rfl
    rw [← Nat.le_zero, ceilNat_le_iff_real_le hx hge, real_posZero, Nat.cast_zero]

/-! ### Values without a sign -/

/-- The value is +0.0, positive and finite, or +∞: a pattern without a sign, no NaN. -/
def Unsigned (f : FloatFmt) (x : F64) : Prop := ∃ mag ≤ f.infMag, x = withSign f false mag

theorem unsigned_round (f : FloatFmt) (m : Nat) (e : Int) : Unsigned f (round f false m e) := by
  unfold round
  split
  · exact ⟨0, Nat.zero_le _, rfl⟩
  · exact ⟨_, min_le_right _ _, rfl⟩

theorem unsigned_infinity (f : FloatFmt) : Unsigned f (infinity f false) :=
  ⟨f.infMag, le_rfl, rfl⟩

/-- What a value without a sign stands for, by its pattern. -/
theorem Unsigned.cases {f : FloatFmt} {x : F64} (h : Unsigned f x) :
    x = posZero ∨ (∃ m e, 0 < m ∧ unpack f x = .fin false m e) ∨ x = infinity f false := by
  obtain ⟨mag, hle, rfl⟩ := h
  obtain hlt | rfl := hle.lt_or_eq
  · obtain rfl | hpos := Nat.eq_zero_or_pos mag
    · exact .inl (zero_false_eq_posZero f)
    · refine .inr (.inl ?_)
      rw [unpack_withSign_of_lt false hlt]
      split
      case isTrue hsub =>
        have hfrac : 0 < mag % 2 ^ f.fracBits := by
          have := Nat.div_add_mod mag (2 ^ f.fracBits)
          rw [hsub] at this
          omega
        exact ⟨_, _, hfrac, rfl⟩
      case isFalse => exact ⟨_, _, Nat.add_pos_right _ (Nat.two_pow_pos _), rfl⟩
  · exact .inr (.inr rfl)

/-- A pattern without a sign and with a significand is a finite value above 0.0. -/
theorem gt_posZero_of_unpack {f : FloatFmt} {x : F64} {m : Nat} {e : Int} (hm : 0 < m)
    (h : unpack f x = .fin false m e) : isFinite f x = true ∧ gt f x posZero = true := by
  have hfinite : isFinite f x = true := isFinite_iff.mpr ⟨_, _, _, h⟩
  refine ⟨hfinite, (gt_iff_real hfinite (isFinite_posZero f)).mpr ?_⟩
  rw [real_posZero, real_of_unpack h, sign, if_neg (by decide), one_mul]
  positivity

/-- What the pattern stands for is +∞, or finite without a sign. -/
def Signless (f : FloatFmt) (x : F64) : Prop :=
  unpack f x = .inf false ∨ ∃ m e, unpack f x = .fin false m e

theorem Unsigned.signless {f : FloatFmt} {x : F64} (h : Unsigned f x) : Signless f x := by
  obtain rfl | ⟨m, e, _, h⟩ | rfl := h.cases
  · exact .inr ⟨_, _, unpack_posZero f⟩
  · exact .inr ⟨m, e, h⟩
  · exact .inl (unpack_infinity false)

/-- A value above 0.0 has no sign. -/
theorem signless_of_gt {f : FloatFmt} {x : F64} (h : gt f x posZero = true) : Signless f x := by
  cases hunpack : unpack f x with
  | nan => simp [gt, compare, hunpack] at h
  | inf s =>
    cases s with
    | false => exact .inl hunpack
    | true => simp [gt, compare, hunpack, unpack_posZero] at h
  | fin s m e =>
    have hfinite : isFinite f x = true := isFinite_iff.mpr ⟨s, m, e, hunpack⟩
    refine .inr ((unpack_of_ge hfinite (ge_of_gt h)).resolve_left fun ⟨d, hd⟩ => ?_)
    have hpos := (gt_iff_real hfinite (isFinite_posZero f)).mp h
    simp [real_posZero, real_of_unpack hd] at hpos

section
variable {f : FloatFmt} {x y : F64} {n : Nat} {d : Int} (hn : 0 < n)
  (hy : unpack f y = .fin false n d)
include hn hy

/-- Multiplying by a positive finite value gives no NaN and no sign. -/
theorem unsigned_mul (hx : Signless f x) :
    Unsigned f (mul f x y) := by
  obtain hx | ⟨m, e, hx⟩ := hx
  · simpa [mul, hx, hy, hn.ne'] using unsigned_infinity f
  · simpa [mul, hx, hy] using unsigned_round f (m * n) (e + d)

/-- So does dividing by one. -/
theorem unsigned_div (hx : Signless f x) :
    Unsigned f (div f x y) := by
  obtain hx | ⟨m, e, hx⟩ := hx
  · simpa [div, hx, hy] using unsigned_infinity f
  · simpa [div, hx, hy, hn.ne', roundQuotient] using unsigned_round f _ _

end

/-! ### The wait length -/

/-- The admitted rates lie far below the overflow bound of either format. -/
theorem two_pow_le_overflowBound (f : FloatFmt) : 2 ^ 53 ≤ overflowBound f := by
  have hexp : 53 ≤ 2 ^ (f.expBits - 1) - 1 := by cases f <;> decide
  have hfactor : (1 : Rat) ≤ 2 - 1 / 2 ^ (f.fracBits + 1) := by
    have hfrac : (1 : Rat) / 2 ^ (f.fracBits + 1) ≤ 1 :=
      div_le_one_of_le₀ (one_le_pow₀ one_le_two) (by positivity)
    linarith
  calc (2 : Rat) ^ 53
      ≤ 2 ^ (2 ^ (f.expBits - 1) - 1) := pow_le_pow_right₀ one_le_two hexp
    _ ≤ overflowBound f := le_mul_of_one_le_left (by positivity) hfactor

/-- A natural of at least 1 is not rounded to zero. -/
theorem ofNat_ne_posZero (f : FloatFmt) {n : Nat} (hn : 1 ≤ n) : ofNat f n ≠ posZero := by
  have hplace : 1 ≤ (lastPlace f n 0 - f.minExp).toNat := by
    have hmin : f.minExp < -f.fracBits := by cases f <;> decide
    have hlast : 0 + (Nat.log2 n : Int) - f.fracBits ≤ lastPlace f n 0 := le_max_left _ _
    omega
  have hinf : 0 < f.infMag := by cases f <;> decide
  have hfrac := Nat.mul_le_mul hplace (Nat.one_le_two_pow (n := f.fracBits))
  intro hzero
  have hmag := congrArg BitVec.toNat hzero
  rw [ofNat, round, if_neg (by omega)] at hmag
  dsimp only at hmag
  rw [toNat_withSign false ((min_le_right _ _).trans_lt f.infMag_lt)] at hmag
  simp [posZero] at hmag
  omega

/-- An admitted F_TICK is converted to a positive finite value (R7, R107). -/
theorem unpack_ofNat_tickRate (f : FloatFmt) {n : Nat} (hlow : 1 ≤ n) (hhigh : n < 2 ^ 53) :
    ∃ m e, 0 < m ∧ unpack f (ofNat f n) = .fin false m e := by
  have hbelow : |(n : Rat)| < overflowBound f := by
    rw [Nat.abs_cast]
    exact lt_of_lt_of_le (by exact_mod_cast hhigh) (two_pow_le_overflowBound f)
  have hfinite := ((roundsTo_ofNat f n).1 hbelow).1
  obtain hzero | hpos | hinf := (unsigned_round f n 0).cases
  · exact absurd hzero (ofNat_ne_posZero f hlow)
  · exact hpos
  · rw [ofNat, hinf, isFinite, unpack_infinity] at hfinite
    cases hfinite

/-- The literal 1000.0 is positive and finite. -/
theorem unpack_literal_thousand (f : FloatFmt) :
    ∃ m e, 0 < m ∧ unpack f (literal f false 1000 1) = .fin false m e := by
  cases f
  · exact ⟨_, _, by decide, rfl⟩
  · exact ⟨_, _, by decide, rfl⟩

/-- The wait length of a positive duration has no sign and is no NaN (R107). -/
theorem unsigned_waitTicks {p : Params} {dur : F64} (hlow : 1 ≤ p.fTick) (hhigh : p.fTick < 2 ^ 53)
    (hdur : gt p.floatFmt dur posZero = true) : Unsigned p.floatFmt (waitTicks p dur) := by
  obtain ⟨n, d, hn, hrate⟩ := unpack_ofNat_tickRate p.floatFmt hlow hhigh
  obtain ⟨k, b, hk, hthousand⟩ := unpack_literal_thousand p.floatFmt
  exact unsigned_div hk hthousand (unsigned_mul hn hrate (signless_of_gt hdur)).signless

/-- Settles O19: a product and a quotient of values above 0.0 are rounded without a sign, and such a
pattern is +0.0, a positive finite value or +∞. -/
theorem waitLengthIsNeverNaNOrNegative : Obligations.WaitLengthIsNeverNaNOrNegative := by
  intro p dur hlow hhigh hdur
  refine ⟨rfl, ?_⟩
  obtain hzero | ⟨m, e, hm, hpos⟩ | hinf := (unsigned_waitTicks hlow hhigh hdur).cases
  · exact .inl hzero
  · exact .inr (.inl (gt_posZero_of_unpack hm hpos))
  · exact .inr (.inr hinf)

end Sys2Proof.Float64
end

section
/-! PROOFS. The run never stops, and gives CLK and SEQ their turns (R100, R212, R213). -/

namespace Sys2Proof.Machine

/-! ### No step stops the machine -/

/-- A pin write is the one place where an operation stops, and it does not with a writer bound. -/
theorem exec_next_of_bound {s : State} (hbound : s.genState = .running → s.pinBind ≠ none)
    (i : Instr) : ∃ u, exec i s = .next u := by
  by_cases hcodec : i.readsBuffer = true
  · obtain ⟨u, hu, _⟩ := exec_codec hcodec s
    exact ⟨u, hu⟩
  cases i with
  | start =>
    simp only [exec, execStart]
    split
    · exact ⟨_, rfl⟩
    · split
      · exact ⟨_, rfl⟩
      · split <;> exact ⟨_, rfl⟩
  | stop =>
    simp only [exec, execStop]
    split <;> exact ⟨_, rfl⟩
  | runCycle =>
    simp only [exec, execRunCycle]
    split
    case isFalse => exact ⟨_, rfl⟩
    case isTrue hrun =>
      cases s.seqPh with
      | hiWrite | loWrite => exact pinWrite_of_bound (hbound hrun) ..
      | cycStart | hiWaitEnter | hiPoll | loWaitEnter | loPoll => exact ⟨_, rfl⟩
  | waitFor =>
    simp only [exec, execWaitFor]
    split
    · exact ⟨_, rfl⟩
    · split <;> exact ⟨_, rfl⟩
  | setOnWidth | fwdEdge | bwdEdge | now | frequency => exact ⟨_, rfl⟩
  | decodeHumidity | decodeTemperatureC | decodeAdc12 | decodeAdc10 | encodePixelFrame =>
    exact absurd rfl hcodec

/-- The service of a command answers a next state when every operation does. -/
theorem serve_next_of_bound {s : State} (hbound : s.genState = .running → s.pinBind ≠ none)
    (c : Command) : ∃ u, serve c s = .next u := by
  unfold serve
  split
  · exact ⟨_, rfl⟩
  · split
    · exact ⟨_, rfl⟩
    · split
      · exact exec_next_of_bound (s := s.present c) hbound _
      · exact ⟨_, rfl⟩

/-- Under the register invariant every step answers a next state. -/
theorem State.Inv.step_next {s : State} (h : s.Inv) : ∃ u, step s = .next u := by
  obtain ⟨l, n, htake⟩ := takeMove_snd s
  have hbound : s.takeMove.2.genState = .running → s.takeMove.2.pinBind ≠ none := by
    rw [htake]
    exact h.bound
  unfold step makeMove
  split
  · exact ⟨_, rfl⟩
  · exact serve_next_of_bound hbound _

/-- A step takes its move off the agenda, and no operation puts one there. -/
theorem step_agenda {s u : State} (h : step s = .next u) :
    u.agenda = s.takeMove.2.agenda ∧ u.turn = s.takeMove.2.turn := by
  obtain ⟨_, rfl⟩ | ⟨c, _, hserve⟩ := Machine.step_next h
  · exact ⟨rfl, rfl⟩
  · exact ⟨(records_serve hserve).agenda, (records_serve hserve).turn⟩

/-! ### Runs -/

/-- A run goes on from the state that its first steps reach. -/
theorem run_add (M : Host.Core) {k : Nat} {s u : M.State} (h : M.run k s = .next u) (l : Nat) :
    M.run (k + l) s = M.run l u := by
  induction k generalizing s with
  | zero =>
    cases h
    rw [Nat.zero_add]
  | succ k ih =>
    rw [Nat.succ_add, Host.Core.run]
    rw [Host.Core.run] at h
    cases hstep : M.step s with
    | next v =>
      rw [hstep] at h
      exact ih h
    | fault r | refused r =>
      rw [hstep] at h
      cases h

/-- The run from `s` comes to `u`, where the register invariant holds, with the counter that does
not wrap; the tick is not earlier there. -/
structure Leads (s u : State) : Prop where
  run : ∃ k, Host.Core.run Sys2Proof.core k s = .next u
  inv : u.Inv
  bits : u.cfg.tickBits = none
  t_le : s.t ≤ u.t

theorem Leads.refl {s : State} (hinv : s.Inv) (hbits : s.cfg.tickBits = none) : Leads s s where
  run := ⟨0, rfl⟩
  inv := hinv
  bits := hbits
  t_le := le_rfl

theorem Leads.trans {s u v : State} (hsu : Leads s u) (huv : Leads u v) : Leads s v where
  run := by
    obtain ⟨k, hk⟩ := hsu.run
    obtain ⟨l, hl⟩ := huv.run
    exact ⟨k + l, (run_add Sys2Proof.core hk l).trans hl⟩
  inv := huv.inv
  bits := huv.bits
  t_le := hsu.t_le.trans huv.t_le

section
variable {s : State} (hinv : s.Inv) (hbits : s.cfg.tickBits = none)
include hinv hbits

/-- One step of the run, with the move in turn taken off the agenda. -/
theorem leads_of_step {u : State} (hstep : step s = .next u) : Leads s u where
  run := ⟨1, by simp [Host.Core.run, Sys2Proof.core, hstep]⟩
  inv := everyStepKeepsTheRegisterInvariant s u hinv hstep
  bits := by rw [constantsNeverChange s u hstep, hbits]
  t_le := (onlyTheClockChangesTheTick s u hbits hstep).1

/-- The run takes up the settled moves one by one. -/
theorem leads_through {moves rest : List Move} (hagenda : s.agenda = moves ++ rest) :
    ∃ u, Leads s u ∧ u.agenda = rest ∧ u.turn = s.turn := by
  induction moves generalizing s with
  | nil => exact ⟨s, .refl hinv hbits, hagenda, rfl⟩
  | cons m moves ih =>
    obtain ⟨v, hstep⟩ := hinv.step_next
    have hv := leads_of_step hinv hbits hstep
    obtain ⟨hvagenda, hvturn⟩ := step_agenda hstep
    rw [takeMove_of_cons hagenda] at hvagenda hvturn
    obtain ⟨u, hu, hrest, hturn⟩ := ih hv.inv hv.bits hvagenda
    exact ⟨u, hv.trans hu, hrest, hturn.trans hvturn⟩

end

/-- Where no move is settled, the next stretch is taken up. -/
theorem takeMove_of_nil {s : State} (h : s.agenda = []) :
    s.takeMove = ((stretch s.turn).headD .clk,
      { s with agenda := (stretch s.turn).tail, turn := s.turn + 1 }) := by
  unfold State.takeMove
  rw [h]

/-- `u` is about to make the move that closes the stretch `n`. -/
def State.ClosesStretch (u : State) (n : Nat) : Prop :=
  u.takeMove.1 = fairMove n ∧ u.takeMove.2.agenda = [] ∧ u.takeMove.2.turn = n + 1

section
variable {s : State} (hinv : s.Inv) (hbits : s.cfg.tickBits = none) (hagenda : s.agenda = [])
include hinv hbits hagenda

/-- However long the free moves of a stretch are, the run comes to the move that closes it. -/
theorem leads_to_close : ∃ u, Leads s u ∧ u.ClosesStretch s.turn := by
  have htake := takeMove_of_nil hagenda
  cases hfree : Config.freeStretch s.turn with
  | nil =>
    refine ⟨s, .refl hinv hbits, ?_⟩
    simp [State.ClosesStretch, htake, stretch, hfree]
  | cons m moves =>
    obtain ⟨v, hstep⟩ := hinv.step_next
    have hv := leads_of_step hinv hbits hstep
    obtain ⟨hvagenda, hvturn⟩ := step_agenda hstep
    simp only [htake, stretch, hfree, List.cons_append, List.tail_cons] at hvagenda hvturn
    obtain ⟨u, hu, hclose, hturn⟩ := leads_through hv.inv hv.bits hvagenda
    refine ⟨u, hv.trans hu, ?_⟩
    simp [State.ClosesStretch, takeMove_of_cons hclose, hturn, hvturn]

/-- After the stretch the agenda is empty again, and the next one is in turn. -/
theorem leads_to_next_stretch : ∃ u, Leads s u ∧ u.agenda = [] ∧ u.turn = s.turn + 1 := by
  obtain ⟨v, hv, _, hempty, hnext⟩ := leads_to_close hinv hbits hagenda
  obtain ⟨u, hstep⟩ := hv.inv.step_next
  obtain ⟨huagenda, huturn⟩ := step_agenda hstep
  exact ⟨u, hv.trans (leads_of_step hv.inv hv.bits hstep), huagenda.trans hempty,
    huturn.trans hnext⟩

end

/-- The run comes to the close of an even stretch and of an odd one. -/
theorem leads_to_fairMove {s : State} (hinv : s.Inv) (hbits : s.cfg.tickBits = none) {r : Nat}
    (hr : r < 2) : ∃ u n, Leads s u ∧ u.takeMove.1 = fairMove n ∧ n % 2 = r := by
  obtain ⟨v, hv, hvagenda, _⟩ := leads_through hinv hbits s.agenda.append_nil.symm
  by_cases hparity : v.turn % 2 = r
  · obtain ⟨u, hu, hmove, _⟩ := leads_to_close hv.inv hv.bits hvagenda
    exact ⟨u, _, hv.trans hu, hmove, hparity⟩
  · obtain ⟨w, hw, hwagenda, hwturn⟩ := leads_to_next_stretch hv.inv hv.bits hvagenda
    obtain ⟨u, hu, hmove, _⟩ := leads_to_close hw.inv hw.bits hwagenda
    exact ⟨u, _, (hv.trans hw).trans hu, hmove, by omega⟩

/-- Settles O47: an even stretch closes with CLK's move, which takes the tick further, and an odd
one with SEQ's. -/
theorem clockAndSequencerAreNeverStarved : Obligations.ClockAndSequencerAreNeverStarved := by
  intro s hinv hbits
  constructor
  · obtain ⟨v, n, hv, hmove, heven⟩ := leads_to_fairMove hinv hbits (r := 0) (by decide)
    have hclk : v.takeMove.1 = .clk := by rw [hmove, fairMove, if_pos heven]
    have hstep : step v = .next v.takeMove.2.clockTick := by rw [step, hclk, makeMove]
    obtain ⟨k, hk⟩ := (hv.trans (leads_of_step hv.inv hv.bits hstep)).run
    refine ⟨k, _, hk, ?_⟩
    obtain ⟨l, m, htake⟩ := takeMove_snd v
    rw [State.clockTick_t, htake, nextTick_of_unbounded hv.bits]
    exact Nat.lt_succ_of_le hv.t_le
  · obtain ⟨v, n, hv, hmove, hodd⟩ := leads_to_fairMove hinv hbits (r := 1) (by decide)
    have hseq : v.takeMove.1 = .seqTurn (Config.freePinAnswer n) := by
      rw [hmove, fairMove, if_neg (by omega)]
    obtain ⟨k, hk⟩ := hv.run
    exact ⟨k, v, _, hk, hseq, rfl⟩

end Sys2Proof.Machine
end

section
/-! PROOFS. The values of a cycle: the clamped setpoint (R131) and the LOW wait PERIOD - W_SNAP
(R136). -/

namespace Sys2Proof.Float64

open Sys2Proof.Machine

/-! ### Comparisons the other way round -/

theorem compare_swap (f : FloatFmt) (x y : F64) :
    compare f y x = (compare f x y).map Ordering.swap := by
  unfold compare
  cases unpack f x with
  | nan => cases unpack f y <;> rfl
  | inf s =>
    cases unpack f y with
    | nan => rfl
    | inf t => cases s <;> cases t <;> rfl
    | fin => cases s <;> rfl
  | fin s m e =>
    cases unpack f y with
    | nan => rfl
    | inf t => cases t <;> rfl
    | fin t n d =>
      simp only [min_comm d e, Option.map_some, Option.some.injEq]
      exact Std.OrientedCmp.eq_swap

/-- A value is not at or above a finite one when it is below it or a NaN. -/
theorem ge_eq_false_iff {f : FloatFmt} {p : F64} (hp : isFinite f p = true) (x : F64) :
    ge f x p = false ↔ gt f p x = true ∨ isNaN f x = true := by
  have hnan : isNaN f x = (compare f x p).isNone := by
    obtain ⟨s, m, e, hp⟩ := isFinite_iff.mp hp
    unfold isNaN compare
    rw [hp]
    cases unpack f x <;> rfl
  rw [hnan, ge, gt, compare_swap f x p]
  cases compare f x p with
  | none => decide
  | some o => cases o <;> decide

/-- A value above another one is not equal to it. -/
theorem eq_eq_false_of_gt {f : FloatFmt} {x y : F64} (h : gt f x y = true) :
    eq f x y = false := by
  rw [gt, beq_iff_eq] at h
  rw [eq, h]
  rfl

/-- A value above a positive finite one is above 0.0. -/
theorem gt_posZero_of_gt {f : FloatFmt} {x p : F64} (hp : isFinite f p = true)
    (hpos : gt f p posZero = true) (h : gt f x p = true) : gt f x posZero = true := by
  have hzero := isFinite_posZero f
  cases hx : unpack f x with
  | nan => simp [gt, compare, hx] at h
  | inf neg =>
    obtain ⟨s, m, e, hp⟩ := isFinite_iff.mp hp
    simpa [gt, compare, hx, hp, unpack_posZero] using h
  | fin s m e =>
    have hfinite : isFinite f x = true := isFinite_iff.mpr ⟨s, m, e, hx⟩
    rw [gt_iff_real hfinite hzero]
    exact ((gt_iff_real hp hzero).mp hpos).trans ((gt_iff_real hfinite hp).mp h)

/-! ### The range of a rounded value -/

/-- A finite value stays below the overflow bound. -/
theorem real_lt_overflowBound {f : FloatFmt} {x : F64} (hx : isFinite f x = true) :
    real f x < overflowBound f := by
  obtain ⟨s, m, e, hx⟩ := isFinite_iff.mp hx
  obtain ⟨hm, -⟩ := unpack_fin_bounds hx
  have he : e ≤ f.minExp + topPlace f := by
    have hfield : expField f x < 2 ^ f.expBits := Nat.mod_lt _ (Nat.two_pow_pos _)
    unfold unpack at hx
    unfold topPlace
    split at hx
    · split at hx <;> cases hx
    · split at hx <;> cases hx <;> omega
  have hm : (m : Rat) ≤ 2 ^ (f.fracBits + 1) - 1 := by
    rw [le_sub_iff_add_le]
    exact_mod_cast hm
  have hsign : sign s ≤ 1 := (le_abs_self _).trans (abs_sign s).le
  calc real f x
      = sign s * (m * 2 ^ e) := by rw [real_of_unpack hx, mul_assoc]
    _ ≤ 1 * (m * 2 ^ e) := by gcongr
    _ ≤ (2 ^ (f.fracBits + 1) - 1) * 2 ^ (f.minExp + topPlace f) := by
        rw [one_mul]
        exact mul_le_mul hm (zpow_le_zpow_right₀ one_le_two he) (by positivity)
          ((Nat.cast_nonneg m).trans hm)
    _ < (2 ^ (f.fracBits + 1) - 1 / 2) * 2 ^ (f.minExp + topPlace f) := by
        gcongr
        norm_num
    _ = overflowBound f := (overflowBound_eq f).symm

section
variable {f : FloatFmt} {v : Rat} {r z : F64} (h : nearestTo f v r) (hz : isFinite f z = true)
include h hz

/-- Rounding does not pass a finite value below. -/
theorem real_le_of_nearestTo (hle : real f z ≤ v) : real f z ≤ real f r := by
  have hnear := (h z hz).1
  rw [abs_sub_comm (real f z), abs_of_nonneg (sub_nonneg.mpr hle)] at hnear
  linarith [(abs_le.mp hnear).1]

/-- Rounding does not pass a finite value above. -/
theorem le_real_of_nearestTo (hle : v ≤ real f z) : real f r ≤ real f z := by
  have hnear := (h z hz).1
  rw [abs_of_nonneg (sub_nonneg.mpr hle)] at hnear
  linarith [(abs_le.mp hnear).2]

end

/-! ### Multiples of the least place -/

/-- The least positive value. -/
theorem exists_real_eq_two_zpow_minExp (f : FloatFmt) :
    ∃ z, isFinite f z = true ∧ real f z = 2 ^ f.minExp := by
  have hunpack : unpack f (withSign f false 1) = .fin false 1 f.minExp :=
    unpack_subnormal false (by cases f <;> decide) (by cases f <;> decide)
  exact ⟨_, isFinite_iff.mpr ⟨_, _, _, hunpack⟩, by simp [real_of_unpack hunpack, sign]⟩

/-- Every finite value is a multiple of the least positive one. -/
theorem real_eq_int_mul {f : FloatFmt} {x : F64} (hx : isFinite f x = true) :
    ∃ Z : Int, real f x = Z * 2 ^ f.minExp := by
  obtain ⟨Z, hZ⟩ | ⟨hne, _⟩ := integer_or_small hx false 0
  · exact ⟨Z, by simpa [sign] using hZ⟩
  · exact absurd rfl hne

/-- A positive difference of finite values is not below the least positive value. -/
theorem two_zpow_minExp_le_sub {f : FloatFmt} {x y : F64} (hx : isFinite f x = true)
    (hy : isFinite f y = true) (hlt : real f y < real f x) :
    2 ^ f.minExp ≤ real f x - real f y := by
  obtain ⟨a, ha⟩ := real_eq_int_mul hx
  obtain ⟨b, hb⟩ := real_eq_int_mul hy
  have hunit : (0 : Rat) < 2 ^ f.minExp := by positivity
  rw [ha, hb, mul_lt_mul_iff_left₀ hunit] at hlt
  have hone : (1 : Rat) ≤ a - b := by
    rw [le_sub_iff_add_le, add_comm]
    exact_mod_cast hlt
  rw [ha, hb, ← sub_mul]
  exact le_mul_of_one_le_left hunit.le hone

/-! ### A difference `p - w` with `0.0 <= w <= p` -/

/-- A value between 0.0 and a finite one is finite. -/
theorem isFinite_of_range {f : FloatFmt} {p w : F64} (hp : isFinite f p = true)
    (hge : ge f w posZero = true) (hle : le f w p = true) : isFinite f w = true := by
  obtain ⟨s, m, e, hp⟩ := isFinite_iff.mp hp
  cases hw : unpack f w with
  | nan => simp [ge, compare, hw] at hge
  | inf neg => cases neg <;> simp [ge, le, compare, hw, hp, unpack_posZero] at hge hle
  | fin t n d => exact isFinite_iff.mpr ⟨t, n, d, hw⟩

/-- The difference of equal values is +0.0 when the first has no sign. -/
theorem sub_eq_posZero_of_eq {f : FloatFmt} {p w : F64} {m : Nat} {e : Int}
    (hp : unpack f p = .fin false m e) (hw : isFinite f w = true) (heq : real f w = real f p) :
    sub f p w = posZero := by
  obtain ⟨t, n, d, hw⟩ := isFinite_iff.mp hw
  have hneg := unpack_neg hw
  have hsum : signedAt false m e (min e d) + signedAt (!t) n d (min e d) = 0 := by
    have hunit : (2 : Rat) ^ min e d ≠ 0 := by positivity
    have hzero : (((signedAt false m e (min e d) + signedAt (!t) n d (min e d) : Int)) : Rat) *
        2 ^ min e d = 0 := by
      rw [Int.cast_add, add_mul, signedAt_mul_two_zpow _ _ (min_le_left e d),
        signedAt_mul_two_zpow _ _ (min_le_right e d), ← real_of_unpack hp, sign_not, ← heq,
        real_of_unpack hw]
      ring
    exact_mod_cast (mul_eq_zero_iff_right hunit).mp hzero
  simp only [sub, add, hp, hneg, hsum, if_true, Bool.false_and]
  exact zero_false_eq_posZero f

section
variable {f : FloatFmt} {p w : F64} (hp : isFinite f p = true) (hge : ge f w posZero = true)
  (hle : le f w p = true)
include hp hge hle

/-- The difference is rounded to a finite value. -/
theorem sub_nearestTo :
    isFinite f (sub f p w) = true ∧ nearestTo f (real f p - real f w) (sub f p w) := by
  have hw := isFinite_of_range hp hge hle
  have hlow := real_nonneg_of_ge hw hge
  have hhigh := (le_iff_real hw hp).mp hle
  refine (roundsTo_sub hp hw).1 ?_
  rw [abs_of_nonneg (sub_nonneg.mpr hhigh)]
  exact lt_of_le_of_lt (sub_le_self _ hlow) (real_lt_overflowBound hp)

/-- It lies between 0.0 and `p`. -/
theorem sub_range :
    ge f (sub f p w) posZero = true ∧ le f (sub f p w) p = true := by
  have hw := isFinite_of_range hp hge hle
  obtain ⟨hfinite, hnear⟩ := sub_nearestTo hp hge hle
  have hzero := isFinite_posZero f
  rw [ge_iff_real hfinite hzero, le_iff_real hfinite hp]
  refine ⟨real_le_of_nearestTo hnear hzero ?_, le_real_of_nearestTo hnear hp ?_⟩
  · rw [real_posZero]
    exact sub_nonneg.mpr ((le_iff_real hw hp).mp hle)
  · exact sub_le_self _ (real_nonneg_of_ge hw hge)

/-- For a positive `p` it is +0.0 exactly for `w` equal to `p`: every other difference is rounded to
no less than the least positive value. -/
theorem sub_eq_posZero_iff (hpos : gt f p posZero = true) :
    sub f p w = posZero ↔ eq f w p = true := by
  have hw := isFinite_of_range hp hge hle
  rw [eq_iff_real hw hp]
  constructor
  · intro hsub
    by_contra hne
    have hlt := lt_of_le_of_ne ((le_iff_real hw hp).mp hle) hne
    obtain ⟨z, hz, hreal⟩ := exists_real_eq_two_zpow_minExp f
    have hleast := two_zpow_minExp_le_sub hp hw hlt
    rw [← hreal] at hleast
    have hresult := real_le_of_nearestTo (sub_nearestTo hp hge hle).2 hz hleast
    rw [hsub, real_posZero, hreal] at hresult
    exact absurd hresult (not_le.mpr (by positivity))
  · intro heq
    obtain hinf | ⟨m, e, hunpack⟩ := signless_of_gt hpos
    · simp [isFinite, hinf] at hp
    · exact sub_eq_posZero_of_eq hunpack hw heq

end

/-- A finite value is no NaN. -/
theorem isNaN_of_finite {f : FloatFmt} {x : F64} (h : isFinite f x = true) :
    isNaN f x = false := by
  obtain ⟨s, m, e, h⟩ := isFinite_iff.mp h
  rw [isNaN, h]
  rfl

/-- Settles O32: the exact difference lies between the finite values 0.0 and `p`, which rounding
does not pass. -/
theorem lowWaitDifferenceStaysInRange : Obligations.LowWaitDifferenceStaysInRange := by
  intro f p w hp hge hle
  obtain ⟨hlow, hhigh⟩ := sub_range hp hge hle
  exact ⟨isNaN_of_finite (sub_nearestTo hp hge hle).1, hlow, hhigh, sub_eq_posZero_iff hp hge hle⟩

end Sys2Proof.Float64

namespace Sys2Proof.Machine

/-! ### The clamp -/

section
variable {f : FloatFmt} {v p : F64}

theorem clamp_of_gt (h : Float64.gt f v p = true) : clamp f v p = p := by
  simp [clamp, h]

theorem clamp_of_ge (h : Float64.gt f v p = false) (hge : Float64.ge f v posZero = true) :
    clamp f v p = v := by
  simp [clamp, h, hge]

theorem clamp_of_not_ge (h : Float64.gt f v p = false) (hge : Float64.ge f v posZero = false) :
    clamp f v p = posZero := by
  simp [clamp, h, hge]

end

/-- Settles O28: a value is a NaN, negative, a zero, or above 0.0, and only one above 0.0 can be
above the period. -/
theorem clampStaysInRange : Obligations.ClampStaysInRange := by
  intro f v p hp hpos
  have hzero := Float64.isFinite_posZero f
  have habove (h : Float64.gt f v p = true) := Float64.gt_posZero_of_gt hp hpos h
  obtain ⟨hlow, hhigh⟩ := clamp_range (Bool.and_eq_true_iff.mpr ⟨hp, hpos⟩) v
  rw [← Float64.ge_eq_false_iff hzero]
  refine ⟨clamp_of_gt, clamp_of_ge, fun hge => ?_, hlow, hhigh, ?_⟩
  · refine clamp_of_not_ge (Bool.eq_false_of_not_eq_true fun hgt => ?_) hge
    simp [Float64.ge_of_gt (habove hgt)] at hge
  · obtain ⟨hgt, h⟩ | ⟨_, hge, h⟩ | ⟨_, hge, h⟩ := clamp_cases f v p <;> rw [h]
    · simp [Float64.eq_eq_false_of_gt hpos, Float64.eq_eq_false_of_gt (habove hgt),
        Float64.ge_of_gt (habove hgt)]
    · simp [hge]
    · simp [hge, (Float64.eq_iff_real hzero hzero).mpr rfl]

end Sys2Proof.Machine
end

section
/-! PROOFS. START and STOP, and the phase steps of RUN_CYCLE (R120 to R137). -/

namespace Sys2Proof.Machine

/-! ### The end of an operation of HOST -/

section
variable {s : State} (hhost : s.bus.issuer = .host)
include hhost

theorem State.recordCmd_of_host (i : Instr) (r : ResultPorts) (o : Option OperandValue) :
    s.recordCmd i r o = s.record (.cmd .host i (operandList i s.bus.operands) r o) := by
  rw [State.recordCmd_of_ne_seq s i r o (by simp [hhost]), hhost]

theorem State.complete_of_host (i : Instr) (r : ResultPorts) :
    s.complete i r = { s with
      res := r, trace := s.trace ++ [.cmd .host i (operandList i s.bus.operands) r none] } :=
  State.recordCmd_of_host (s := s.drive r) hhost i r none

theorem State.raise_of_host (i : Instr) (e : Status) (o : Option OperandValue) :
    s.raise i e o = { s with
      res := raisePorts e
      trace := s.trace ++ [.cmd .host i (operandList i s.bus.operands) (raisePorts e) o] } :=
  State.recordCmd_of_host (s := s.drive (raisePorts e)) hhost i (raisePorts e) o

end

/-! ### START and STOP -/

/-- START is issued as the word 0x0100, by HOST. -/
theorem start_issuedAs : IssuedAs .start 0x0100 [.host] := by
  refine ⟨by decide, fun a => ?_⟩
  cases a <;> decide

/-- STOP is issued as the word 0x0200, by HOST. -/
theorem stop_issuedAs : IssuedAs .stop 0x0200 [.host] := by
  refine ⟨by decide, fun a => ?_⟩
  cases a <;> decide

/-- The `Cmd` event of START records its period and its pin (R14, R74). -/
theorem operandList_start {o : Operands} {pin : Option PinHandle} (h : o.pinIn = pin) :
    operandList .start o = [.f64 o.periodIn, .pin pin] := by
  rw [operandList, h]

section
variable {s : State}

theorem exec_start_of_running (hrun : s.genState = .running) :
    exec .start s = .next s.refuse := by
  simp [exec, execStart, hrun]

section
variable (hrun : s.genState ≠ .running)
include hrun

theorem exec_start_of_not_admitted
    (hperiod : periodAdmitted s.fmt s.bus.operands.periodIn = false) :
    exec .start s =
      .next (s.raise .start .invalidInput (some (.f64 s.bus.operands.periodIn))) := by
  simp [exec, execStart, hrun, hperiod]

variable (hperiod : periodAdmitted s.fmt s.bus.operands.periodIn = true)
include hperiod

theorem exec_start_of_no_pin (hpin : s.bus.operands.pinIn = none) :
    exec .start s = .next (State.raise
      { s with
        period := s.bus.operands.periodIn, stopReq := false, pinBind := none
        genState := .degraded }
      .start .hardwareUnavailable none) := by
  simp [exec, execStart, hrun, hperiod, hpin]

theorem exec_start_of_pin {h : PinHandle} (hpin : s.bus.operands.pinIn = some h) :
    exec .start s = .next (State.complete
      { s with
        period := s.bus.operands.periodIn, stopReq := false, pinBind := some h
        seqPh := .cycStart, genState := .running }
      .start okPorts) := by
  simp [exec, execStart, hrun, hperiod, hpin]

end

theorem exec_stop_of_running (hrun : s.genState = .running) :
    exec .stop s = .next (State.complete { s with stopReq := true } .stop okPorts) :=
  if_pos hrun

theorem exec_stop_of_not_running (hrun : s.genState ≠ .running) :
    exec .stop s = .next (s.complete .stop okPorts) :=
  if_neg hrun

end

/-- Settles O24: the four outcomes of START, each with the event that `raise` or `return` records
for HOST. -/
theorem startContract : Obligations.StartContract := by
  refine ⟨start_issuedAs, fun s hhost => ?_⟩
  intro o admitted
  refine ⟨exec_start_of_running, fun hrun hbad => ?_, fun hrun hok hpin => ?_,
    fun h hrun hok hpin => ?_⟩
  · rw [exec_start_of_not_admitted hrun hbad, State.raise_of_host hhost]
    rfl
  · rw [exec_start_of_no_pin hrun hok hpin, State.raise_of_host (by exact hhost)]
    dsimp only
    rw [operandList_start hpin]
    rfl
  · rw [exec_start_of_pin hrun hok hpin, State.complete_of_host (by exact hhost)]
    dsimp only
    rw [operandList_start hpin]
    rfl

/-- Settles O25: STOP returns OK in either case, after its one register write while RUNNING. -/
theorem stopContract : Obligations.StopContract := by
  refine ⟨stop_issuedAs, fun s hhost => ⟨fun hrun => ?_, fun hrun => ?_⟩⟩
  · rw [exec_stop_of_running hrun, State.complete_of_host (by exact hhost)]
    rfl
  · rw [exec_stop_of_not_running hrun, State.complete_of_host hhost]
    rfl

/-! ### The phase steps -/

/-- Outside RUNNING a phase step is no step (R129). -/
theorem exec_runCycle_of_not_running {s : State} (hrun : s.genState ≠ .running) :
    exec .runCycle s = .next s :=
  if_neg hrun

section
variable {s : State} (hrun : s.genState = .running)
include hrun

theorem exec_runCycle_of_cycStart (hph : s.seqPh = .cycStart) :
    exec .runCycle s = .next (cycStartStep s) := by
  simp [exec, execRunCycle, hrun, hph]

theorem exec_runCycle_of_hiWrite (hph : s.seqPh = .hiWrite) :
    exec .runCycle s = s.pinWrite .high fun u => { u with seqPh := .hiWaitEnter } := by
  simp [exec, execRunCycle, hiWriteStep, hrun, hph]

theorem exec_runCycle_of_hiPoll (hph : s.seqPh = .hiPoll) :
    exec .runCycle s = .next (s.waitPoll fun u => { u with seqPh := .loWrite }) := by
  simp [exec, execRunCycle, hiPollStep, hrun, hph]

theorem exec_runCycle_of_loWrite (hph : s.seqPh = .loWrite) :
    exec .runCycle s = s.pinWrite .low fun u => { u with seqPh := .loWaitEnter } := by
  simp [exec, execRunCycle, loWriteStep, hrun, hph]

theorem exec_runCycle_of_loPoll (hph : s.seqPh = .loPoll) :
    exec .runCycle s = .next (s.waitPoll fun u => { u with seqPh := .cycStart }) := by
  simp [exec, execRunCycle, loPollStep, hrun, hph]

end

section
variable {s : State}

theorem cycStartStep_of_stop (hstop : s.stopReq = true) :
    cycStartStep s = State.record { s with stopReq := false, genState := .stopped } .stopped :=
  if_pos hstop

theorem cycStartStep_of_not_stop (hstop : s.stopReq = false) :
    cycStartStep s = State.record
      { s with
        wSnap := clamp s.fmt s.onWidth s.period
        seqPh := if Float64.eq s.fmt (clamp s.fmt s.onWidth s.period) posZero then .loWrite
          else .hiWrite }
      (.snap (clamp s.fmt s.onWidth s.period)) :=
  if_neg (ne_true_of_eq_false hstop)

/-- A pin write with a writer bound records PINENV's answer and goes on. -/
theorem pinWrite_of_some {h : PinHandle} (hbind : s.pinBind = some h) (level : Level)
    (after : State → State) :
    s.pinWrite level after = .next (after { s.record (.pin s.t level s.bus.pinAnswer) with
      pinLevel := if s.bus.pinAnswer = .ok then level.toPin else s.pinLevel }) := by
  simp [State.pinWrite, hbind]

end

/-- Settles O27: the step ends the loop, or takes the snapshot and chooses the phase by it. -/
theorem cycStartStopsOrSnapshots : Obligations.CycStartStopsOrSnapshots := by
  intro s hrun hph
  rw [exec_runCycle_of_cycStart hrun hph]
  refine ⟨fun hstop => ?_, fun hstop => ?_⟩
  · rw [cycStartStep_of_stop hstop]
    rfl
  · intro w
    rw [cycStartStep_of_not_stop hstop]
    refine ⟨fun heq => ?_, fun heq => ?_⟩
    · rw [if_neg (ne_true_of_eq_false heq)]
      rfl
    · rw [if_pos heq]
      rfl

/-- Settles O29: both write phases are a pin write, with the phase change after it. -/
theorem pinWritePhases : Obligations.PinWritePhases := by
  intro s h hrun hbind
  refine ⟨fun hph => ?_, fun hph => ?_⟩
  · rw [exec_runCycle_of_hiWrite hrun hph, pinWrite_of_some hbind]
    rfl
  · rw [exec_runCycle_of_loWrite hrun hph, pinWrite_of_some hbind]
    rfl

/-- Settles O31: both poll phases are a poll, which ends the wait or goes on. -/
theorem pollPhases : Obligations.PollPhases := by
  intro s hrun hwrap ended
  refine ⟨fun hph hover => ?_, fun hph hover => ?_, fun hph hover => ?_⟩
  · rw [exec_runCycle_of_hiPoll hrun hph, waitPoll_of_over hwrap hover]
    rfl
  · rw [exec_runCycle_of_loPoll hrun hph, waitPoll_of_over hwrap hover]
    rfl
  · obtain ⟨after, hexec⟩ := exec_runCycle_of_polls hrun hph
    rw [hexec, waitPoll_of_not_over hwrap hover]
    rfl

/-! ### SEQ's turns -/

/-- SEQ has no step unless RUNNING (R129). -/
theorem serves_eq_none_of_not_running {s : State} (hrun : s.genState ≠ .running) (i : Instr) :
    s.serves .seq i = none :=
  if_pos hrun

/-- At the start of a cycle SEQ's other words are no steps (R126). -/
theorem serves_eq_none_of_cycStart {s : State} {i : Instr} (hi : i ≠ .runCycle)
    (hph : s.seqPh = .cycStart) : s.serves .seq i = none := by
  simp [State.serves, State.seqServes, hi, hph]

/-- Settles O9: SEQ's turn is no step, and neither is the phase step itself. -/
theorem seqHasNoStepUnlessRunning : Obligations.SeqHasNoStepUnlessRunning := by
  intro s c rest i hagenda hseq hdecode hrun
  refine ⟨?_, exec_runCycle_of_not_running hrun⟩
  rw [step_of_issue hagenda]
  refine serve_of_serves_none (by rwa [hseq]) ?_
  rw [hseq]
  exact serves_eq_none_of_not_running hrun i

/-- The register writes of the words that SEQ may issue beside RUN_CYCLE are those of WAIT_FOR, on
the registers of the wait alone (R27, R73). -/
theorem RegisterWrite.of_seq_word {c : Command} {a b : State} {i : Instr}
    (h : RegisterWrite c a i b) (hallowed : i.allowsIssuer .seq = true) (hi : i ≠ .runCycle) :
    b.genState = a.genState ∧ b.stopReq = a.stopReq ∧ b.seqPh = a.seqPh ∧ b.wSnap = a.wSnap ∧
    b.onWidth = a.onWidth ∧ b.period = a.period ∧ b.pinBind = a.pinBind ∧
    b.pinLevel = a.pinLevel ∧ b.t = a.t := by
  cases h with
  | enterWait | endWait => exact ⟨rfl, rfl, rfl, rfl, rfl, rfl, rfl, rfl, rfl⟩
  | setpoint hvalue =>
    obtain h | h := issuer_of_setpointOf hvalue hallowed <;> cases h
  | degrade | run | requestStop => exact absurd hallowed (by decide)
  | _ => exact absurd rfl hi

/-- Settles O10: RUN_CYCLE is served by the phase step; the other words are no steps at the start of
a cycle, and write registers of the wait alone inside one. -/
theorem seqRunsTheLoopWithoutAGap : Obligations.SeqRunsTheLoopWithoutAGap := by
  intro s c rest i hagenda hseq hdecode hrun
  rw [← hseq] at hdecode
  refine ⟨?_, fun hi hph => ?_, fun hi u hstep => ?_⟩
  · rintro rfl hop
    exact stepRunsTheIssuedCommand s c rest _ hagenda hdecode rfl fun _ => ⟨hrun, hop, .inl rfl⟩
  · rw [step_of_issue hagenda]
    refine serve_of_serves_none hdecode ?_
    rw [hseq]
    exact serves_eq_none_of_cycStart hi hph
  · have htake := takeMove_of_cons hagenda
    obtain heq | ⟨hclk, _⟩ | ⟨c', j, hissue, ⟨i', hdecode', hserves⟩, hwrite⟩ :=
      registers_step hstep
    · have h := SameRegisters.of_registers_eq heq
      exact ⟨h.genState, h.stopReq, h.seqPh, h.wSnap, h.onWidth, h.period, h.pinBind, h.pinLevel,
        h.t⟩
    · simp [htake] at hclk
    · obtain rfl : c = c' := by simpa [htake] using hissue
      obtain rfl : i = i' := Except.ok.inj (hdecode.symm.trans hdecode')
      rw [hseq] at hserves
      obtain ⟨_, ⟨h, _⟩ | ⟨h, _⟩ | ⟨_, _, _, _, rfl⟩⟩ := seqServes_some hserves
      · exact absurd h hi
      · exact absurd h hi
      · exact hwrite.of_seq_word (hseq ▸ (decodeFor_ok hdecode).2) hi

/-- Settles O43: under the invariant a pin write finds its writer, and nothing else stops the
machine. -/
theorem noStepStopsTheMachine : Obligations.NoStepStopsTheMachine :=
  fun _ hinv => hinv.step_next

end Sys2Proof.Machine
end

section
/-! PROOFS. PINENV's answer reaches the pin and the trace alone (R127, R142). -/

namespace Sys2Proof.Machine

/-- The state with the pin, the trace and the command ports forgotten: what PINENV's answer may not
reach. -/
def State.forgetPin (s : State) : State :=
  { s with pinLevel := .unknown, trace := [], bus := idleBus }

/-- What a step leaves beside the pin, the trace and the ports does not depend on these. -/
def IgnoresPin (f : State → State) : Prop :=
  ∀ s : State, (f s).forgetPin = (f s.forgetPin).forgetPin

theorem ignoresPin_cycStartStep : IgnoresPin cycStartStep := by
  intro s
  cases hstop : s.stopReq with
  | true => rw [cycStartStep_of_stop hstop, cycStartStep_of_stop (by exact hstop)]; rfl
  | false => rw [cycStartStep_of_not_stop hstop, cycStartStep_of_not_stop (by exact hstop)]; rfl

theorem ignoresPin_hiWaitEnterStep : IgnoresPin hiWaitEnterStep := by
  intro s
  have hneeded : s.forgetPin.waitNeeded s.forgetPin.wSnap = s.waitNeeded s.wSnap := rfl
  unfold hiWaitEnterStep
  rw [hneeded]
  cases s.waitNeeded s.wSnap <;> rfl

theorem ignoresPin_loWaitEnterStep : IgnoresPin loWaitEnterStep := by
  intro s
  have hneeded : s.forgetPin.waitNeeded s.forgetPin.lowWait = s.waitNeeded s.lowWait := rfl
  unfold loWaitEnterStep
  rw [hneeded]
  cases s.waitNeeded s.lowWait <;> rfl

/-- The phase change to `ph`. -/
def State.toPhase (ph : SeqPhase) (s : State) : State := { s with seqPh := ph }

/-- A poll that goes on to another phase ignores the pin. -/
theorem ignoresPin_waitPoll (ph : SeqPhase) :
    IgnoresPin fun s => s.waitPoll (State.toPhase ph) := by
  intro s
  have hover : s.forgetPin.waitOver = s.waitOver := rfl
  have hwrapped : s.forgetPin.wrapped = s.wrapped := rfl
  dsimp only
  unfold State.waitPoll
  rw [hover, hwrapped]
  cases s.wrapped <;> cases s.waitOver <;> rfl

/-- From `s`, and from `s` with the pin forgotten, the phase step leads to states that differ in
nothing but what is forgotten. -/
def State.CyclesAlike (s u : State) : Prop :=
  ∃ w, exec .runCycle s.forgetPin = .next w ∧ u.forgetPin = w.forgetPin

/-- A phase step that is a function of the state and ignores the pin. -/
theorem IgnoresPin.cyclesAlike {f : State → State} (hf : IgnoresPin f) {s u : State}
    (hfull : exec .runCycle s = .next (f s))
    (hforgot : exec .runCycle s.forgetPin = .next (f s.forgetPin))
    (h : exec .runCycle s = .next u) : s.CyclesAlike u := by
  cases hfull.symm.trans h
  exact ⟨_, hforgot, hf s⟩

/-- A phase step that is a pin write and goes on to another phase. -/
theorem cyclesAlike_of_pinWrite {s u : State} {level : Level} {ph : SeqPhase}
    (hfull : exec .runCycle s = s.pinWrite level (State.toPhase ph))
    (hforgot : exec .runCycle s.forgetPin = s.forgetPin.pinWrite level (State.toPhase ph))
    (h : exec .runCycle s = .next u) : s.CyclesAlike u := by
  obtain ⟨hbound, rfl⟩ := pinWrite_next (hfull.symm.trans h)
  obtain ⟨w, hw⟩ := pinWrite_of_bound (s := s.forgetPin) hbound level (State.toPhase ph)
  exact ⟨w, hforgot.trans hw, by rw [(pinWrite_next hw).2]; rfl⟩

/-- Each phase step goes the same way with the pin forgotten. -/
theorem exec_runCycle_cyclesAlike {s u : State} (h : exec .runCycle s = .next u) :
    s.CyclesAlike u := by
  by_cases hrun : s.genState = .running
  case neg =>
    cases (exec_runCycle_of_not_running hrun).symm.trans h
    exact ⟨s.forgetPin, exec_runCycle_of_not_running hrun, rfl⟩
  have hrun' : s.forgetPin.genState = .running := hrun
  cases hph : s.seqPh with
  | cycStart =>
    exact ignoresPin_cycStartStep.cyclesAlike (exec_runCycle_of_cycStart hrun hph)
      (exec_runCycle_of_cycStart hrun' hph) h
  | hiWrite =>
    exact cyclesAlike_of_pinWrite (exec_runCycle_of_hiWrite hrun hph)
      (exec_runCycle_of_hiWrite hrun' hph) h
  | hiWaitEnter =>
    exact ignoresPin_hiWaitEnterStep.cyclesAlike (exec_runCycle_of_hiWaitEnter hrun hph)
      (exec_runCycle_of_hiWaitEnter hrun' hph) h
  | hiPoll =>
    exact (ignoresPin_waitPoll .loWrite).cyclesAlike (exec_runCycle_of_hiPoll hrun hph)
      (exec_runCycle_of_hiPoll hrun' hph) h
  | loWrite =>
    exact cyclesAlike_of_pinWrite (exec_runCycle_of_loWrite hrun hph)
      (exec_runCycle_of_loWrite hrun' hph) h
  | loWaitEnter =>
    exact ignoresPin_loWaitEnterStep.cyclesAlike (exec_runCycle_of_loWaitEnter hrun hph)
      (exec_runCycle_of_loWaitEnter hrun' hph) h
  | loPoll =>
    exact (ignoresPin_waitPoll .cycStart).cyclesAlike (exec_runCycle_of_loPoll hrun hph)
      (exec_runCycle_of_loPoll hrun' hph) h

/-- States that are alike with the pin forgotten are equal once pin, trace and ports are. -/
theorem State.eq_of_forgetPin_eq {u v : State} (h : u.forgetPin = v.forgetPin) :
    { v with pinLevel := u.pinLevel, trace := u.trace, bus := u.bus } = u :=
  calc { v with pinLevel := u.pinLevel, trace := u.trace, bus := u.bus }
      = { v.forgetPin with pinLevel := u.pinLevel, trace := u.trace, bus := u.bus } := rfl
    _ = { u.forgetPin with pinLevel := u.pinLevel, trace := u.trace, bus := u.bus } := by rw [h]
    _ = u := rfl

/-- Settles O33: the two states are one state with the pin forgotten, and the answers with it. -/
theorem pinAnswerChangesOnlyThePin : Obligations.PinAnswerChangesOnlyThePin := by
  intro s u v a b hu hv
  obtain ⟨w, hw, hu⟩ := exec_runCycle_cyclesAlike hu
  obtain ⟨w', hw', hv⟩ := exec_runCycle_cyclesAlike hv
  obtain rfl : w = w' := Host.Outcome.next.inj (hw.symm.trans hw')
  exact State.eq_of_forgetPin_eq (hu.trans hv.symm)

end Sys2Proof.Machine
end

section
/-! PROOFS. Every step keeps the trace a pulse train with its lower bounds (R125, R139, R140,
R145). -/

namespace Sys2Proof.Float64

/-! ### The end of a wait, and a wait of no length -/

/-- A poll that ends a wait comes no earlier than the ceiling of the wait length, whatever that
stands for (R106, R108). -/
theorem ceilNat_le_of_natGe {f : FloatFmt} {n : Nat} {x : F64} (h : natGe f n x = true) :
    ceilNat f x ≤ n := by
  unfold natGe at h
  unfold ceilNat
  cases hx : unpack f x with
  | nan | inf => exact Nat.zero_le n
  | fin s m e =>
    cases s with
    | true => exact Nat.zero_le n
    | false =>
      rw [hx] at h
      rw [cdiv_le_iff (Nat.two_pow_pos _)]
      simpa using h

/-- A zero or a NaN: a length that no tick is needed for. -/
def ZeroOrNaN (f : FloatFmt) (x : F64) : Prop :=
  unpack f x = .nan ∨ ∃ s e, unpack f x = .fin s 0 e

theorem zeroOrNaN_zero (f : FloatFmt) (neg : Bool) : ZeroOrNaN f (zero f neg) :=
  .inr ⟨neg, f.minExp, unpack_subnormal neg (Nat.two_pow_pos _) (by cases f <;> decide)⟩

theorem zeroOrNaN_nanOf (f : FloatFmt) (x y : F64) : ZeroOrNaN f (nanOf f x y) :=
  .inl (eq_of_beq (isNaN_nanOf f x y))

section
variable {f : FloatFmt} {x : F64} (h : ZeroOrNaN f x)
include h

/-- A product of a zero is a zero, or a NaN if the other factor is infinite. -/
theorem ZeroOrNaN.mul (y : F64) : ZeroOrNaN f (mul f x y) := by
  unfold Float64.mul
  obtain h | ⟨s, e, h⟩ := h <;> rw [h]
  · exact zeroOrNaN_nanOf f x y
  · cases unpack f y with
    | nan | inf => exact zeroOrNaN_nanOf f x y
    | fin t n d => simpa [round] using zeroOrNaN_zero f (s ^^ t)

/-- So is a quotient of one, when the divisor is finite and not zero. -/
theorem ZeroOrNaN.div {y : F64} {t : Bool} {n : Nat} {d : Int} (hn : 0 < n)
    (hy : unpack f y = .fin t n d) : ZeroOrNaN f (div f x y) := by
  unfold Float64.div
  obtain h | ⟨s, e, h⟩ := h <;> rw [h, hy]
  · exact zeroOrNaN_nanOf f x y
  · simpa [hn.ne', roundQuotient, round] using zeroOrNaN_zero f (s ^^ t)

theorem ZeroOrNaN.ceilNat_eq_zero : ceilNat f x = 0 := by
  unfold ceilNat
  obtain h | ⟨s, e, h⟩ := h <;> rw [h]
  cases s <;> simp [cdiv]

end

/-- A value at or above 0.0 and not above it is a zero. -/
theorem zeroOrNaN_of_not_gt {f : FloatFmt} {x : F64} (hx : isFinite f x = true)
    (hge : ge f x posZero = true) (hgt : gt f x posZero = false) : ZeroOrNaN f x := by
  obtain ⟨e, h⟩ | ⟨m, e, h⟩ := unpack_of_ge hx hge
  · exact .inr ⟨_, _, h⟩
  · obtain rfl | hm := Nat.eq_zero_or_pos m
    · exact .inr ⟨_, _, h⟩
    · simp [(gt_posZero_of_unpack hm h).2] at hgt

end Sys2Proof.Float64

namespace Sys2Proof.Machine

/-- A wait of zero length needs no tick (R139). -/
theorem need_eq_zero {p : Params} {d : F64} (h : Float64.ZeroOrNaN p.floatFmt d) :
    need p d = 0 := by
  obtain ⟨n, e, hn, hthousand⟩ := Float64.unpack_literal_thousand p.floatFmt
  exact ((h.mul _).div hn hthousand).ceilNat_eq_zero

/-- When the LOW wait is not entered, it needs no tick (R136). -/
theorem State.Inv.need_lowWait_eq_zero {s : State} (hinv : s.Inv) (hsnap : s.snapInRange)
    (h : s.waitNeeded s.lowWait = false) : need s.cfg s.lowWait = 0 := by
  obtain ⟨hfinite, _⟩ : Float64.isFinite s.fmt s.period = true ∧ _ :=
    Bool.and_eq_true_iff.mp hinv.periodOk
  obtain ⟨hge, hle⟩ := hsnap
  exact need_eq_zero (Float64.zeroOrNaN_of_not_gt (Float64.sub_nearestTo hfinite hge hle).1
    (Float64.sub_range hfinite hge hle).1 h)

/-- A wait that is over has lasted the ticks it needs (R106, R139). -/
theorem State.need_le_of_waitOver {s : State} {d : F64} (hdelta : s.waitDelta = waitTicks s.cfg d)
    (h : s.waitOver = true) : need s.cfg d ≤ s.t - s.waitT0 := by
  rw [need, ← hdelta]
  exact Float64.ceilNat_le_of_natGe h

/-! ### What the trace has shown -/

/-- The trace has shown the train `tr`. -/
def State.Shows (s : State) (tr : Train) : Prop := trainOf s.cfg s.trace = some tr

/-- An event of which no train takes notice. -/
def Event.Unseen (e : Event) : Prop := ∀ p tr, trainStep p tr e = some tr

theorem Event.unseen_read (t : Nat) : (Event.read t).Unseen := fun _ _ => rfl

/-- A train takes notice of a START that returned OK, and of no other operation. -/
theorem Event.unseen_cmd {i : Instr} {r : ResultPorts} (h : i ≠ .start ∨ r.status ≠ some .ok)
    (a : Issuer) (l : List OperandValue) (o : Option OperandValue) :
    (Event.cmd a i l r o).Unseen := by
  intro p tr
  simp only [trainStep]
  split
  · rw [if_neg (h.resolve_left fun hi => hi rfl)]
  · rfl

section
variable {s : State} {tr : Train} (h : s.Shows tr)
include h

/-- One more event takes the train on. -/
theorem State.Shows.record {e : Event} {tr' : Train} (he : trainStep s.cfg tr e = some tr') :
    (s.record e).Shows tr' := by
  have h : trainOf s.cfg s.trace = some tr := h
  simp only [State.Shows, State.record_cfg, State.record_trace, trainOf, List.foldl_append,
    List.foldl_cons, List.foldl_nil]
  rw [← trainOf, h]
  exact he

theorem State.Shows.readClock : s.readClock.Shows tr := h.record rfl

variable {i : Instr} {r : ResultPorts} (hunseen : i ≠ .start ∨ r.status ≠ some .ok)
include hunseen

theorem State.Shows.recordCmd (o : Option OperandValue) : (s.recordCmd i r o).Shows tr := by
  unfold State.recordCmd
  split
  · exact h
  · exact h.record (Event.unseen_cmd hunseen _ _ _ _ _)
  · exact h.record (Event.unseen_cmd hunseen _ _ _ _ _)

end

section
variable {s u : State} {tr : Train} (h : s.Shows tr)
include h

/-- `return` of an operation other than START. -/
theorem State.Shows.complete {i : Instr} (hi : i ≠ .start) (r : ResultPorts) :
    (s.complete i r).Shows tr :=
  State.Shows.recordCmd (s := s.drive r) h (.inl hi) none

/-- `raise` of any operation. -/
theorem State.Shows.raise (i : Instr) {e : Status} (he : e ≠ .ok) (o : Option OperandValue) :
    (s.raise i e o).Shows tr :=
  State.Shows.recordCmd (s := s.drive (raisePorts e)) h (.inr (by simpa [raisePorts] using he)) o

/-- A poll reads the clock at most, when what follows the wait shows nothing more. -/
theorem State.Shows.waitPoll {after : State → State}
    (hafter : ∀ v, v.Shows tr → (after v).Shows tr) : (s.waitPoll after).Shows tr := by
  obtain ⟨_, hpoll⟩ | ⟨_, _, hpoll⟩ | ⟨_, _, hpoll⟩ := waitPoll_cases s after <;> rw [hpoll]
  · exact h
  · exact hafter _ h.readClock
  · exact h.readClock

/-- The end of an operation that checks its length, other than START. -/
theorem State.Shows.length_check {i : Instr} (hi : i ≠ .start) {r : ResultPorts} {wrong : Prop}
    [Decidable wrong]
    (hexec : (if wrong then .next (s.wrongLength i) else .next (s.complete i r) :
      Host.Outcome State Fault Refusal) = .next u) : u.Shows tr := by
  split at hexec <;> cases hexec
  · exact h.raise i (by decide) _
  · exact h.complete hi r

/-- The operations beside START and RUN_CYCLE leave events that no train sees. -/
theorem State.Shows.exec {i : Instr} (hstart : i ≠ .start) (hcycle : i ≠ .runCycle)
    (hexec : exec i s = .next u) : u.Shows tr := by
  cases i with
  | start => exact absurd rfl hstart
  | runCycle => exact absurd rfl hcycle
  | stop =>
    by_cases hrun : s.genState = .running
    · cases (exec_stop_of_running hrun).symm.trans hexec
      exact State.Shows.complete (by exact h) (by decide) _
    · cases (exec_stop_of_not_running hrun).symm.trans hexec
      exact h.complete (by decide) _
  | setOnWidth | fwdEdge | bwdEdge =>
    cases hexec
    exact State.Shows.complete (by exact h) hstart _
  | now => cases hexec; exact h.readClock.complete (by decide) _
  | frequency => cases hexec; exact h.complete (by decide) _
  | waitFor =>
    unfold Machine.exec execWaitFor at hexec
    dsimp only at hexec
    split at hexec
    · cases hexec
      exact h.waitPoll fun _ hv => hv
    · split at hexec <;> cases hexec
      · exact h.readClock
      · exact h
  | decodeHumidity | decodeTemperatureC | decodeAdc12 | decodeAdc10 | encodePixelFrame =>
    exact h.length_check hstart hexec

end

/-! ### How the registers follow the train -/

section
variable {s : State} {tr : Train}

theorem State.follows_of_running (hrun : s.genState = .running) (hperiod : tr.period = s.period)
    (hphase : s.phaseFollows tr) : s.follows tr :=
  ⟨fun _ => ⟨hperiod, hphase⟩, fun h => absurd hrun h⟩

theorem State.follows_of_not_running (hrun : s.genState ≠ .running)
    (hexpect : tr.expect = .snapshot) (hdue : tr.due ≤ s.t) : s.follows tr :=
  ⟨fun h => absurd h hrun, fun _ => ⟨hexpect, hdue⟩⟩

/-- A later tick is no earlier than a pin write may come. -/
theorem State.phaseFollows_clockTick (hbits : s.cfg.tickBits = none) (h : s.phaseFollows tr) :
    s.clockTick.phaseFollows tr := by
  have ht : s.clockTick.t = s.t + 1 := nextTick_of_unbounded hbits s.t
  have hlow : s.clockTick.lowWait = s.lowWait := rfl
  unfold State.phaseFollows at h ⊢
  rw [State.clockTick_seqPh, State.clockTick_wSnap, State.clockTick_waitT0, State.clockTick_cfg,
    ht, hlow]
  cases hph : s.seqPh <;> rw [hph] at h
  case hiPoll | loPoll => exact h
  case cycStart => exact ⟨h.1, by omega⟩
  case loWaitEnter => exact ⟨h.1, by omega⟩
  all_goals exact ⟨h.1, h.2.1, by omega⟩

theorem State.follows_clockTick (hbits : s.cfg.tickBits = none) (h : s.follows tr) :
    s.clockTick.follows tr := by
  obtain ⟨hrunning, hother⟩ := h
  refine ⟨fun hrun => ?_, fun hrun => ?_⟩
  · obtain ⟨hperiod, hphase⟩ := hrunning hrun
    exact ⟨hperiod, s.phaseFollows_clockTick hbits hphase⟩
  · obtain ⟨hexpect, hdue⟩ := hother hrun
    refine ⟨hexpect, ?_⟩
    rw [State.clockTick_t, nextTick_of_unbounded hbits]
    omega

/-- Outside the poll phases the train does not depend on the registers of the wait. -/
theorem State.phaseFollows_waitEntry (hpoll : s.seqPh.polls = false) (dur : F64)
    (h : s.phaseFollows tr) : (s.waitEntry dur).phaseFollows tr := by
  have hph : (s.waitEntry dur).seqPh = s.seqPh := rfl
  unfold State.phaseFollows at h ⊢
  rw [hph]
  cases hph : s.seqPh <;> rw [hph] at h hpoll
  case hiPoll | loPoll => cases hpoll
  all_goals exact h

end

/-- The register writes of the operations beside START and RUN_CYCLE are not those a train depends
on. -/
theorem RegisterWrite.follows {c : Command} {a b : State} {i : Instr} {tr : Train}
    (hwrite : RegisterWrite c a i b) (hstart : i ≠ .start) (hcycle : i ≠ .runCycle)
    (hruns : a.Runs c i) (h : a.follows tr) : b.follows tr := by
  cases hwrite with
  | requestStop | setpoint | endWait => exact h
  | enterWait hop =>
    obtain ⟨hrun, hplace⟩ := hruns.of_waitFor
    obtain ⟨hpoll, _⟩ := hplace.resolve_left (by simp [hop])
    obtain ⟨hperiod, hphase⟩ := h.1 hrun
    exact State.follows_of_running hrun hperiod
      (State.phaseFollows_waitEntry hpoll c.operands.durIn hphase)
  | degrade | run => exact absurd rfl hstart
  | _ => exact absurd rfl hcycle

/-! ### START -/

/-- START ends a train's standstill: after it the train waits for the first snapshot, with the
period of the START that returned OK. -/
theorem trainHolds_exec_start {s u : State} (hhost : s.bus.issuer = .host) (h : s.trainHolds)
    (hexec : exec .start s = .next u) : u.trainHolds := by
  obtain ⟨tr, hshows, hfollows⟩ := h
  by_cases hrun : s.genState = .running
  · cases (exec_start_of_running hrun).symm.trans hexec
    exact ⟨tr, hshows, hfollows⟩
  obtain ⟨hexpect, hdue⟩ := hfollows.2 hrun
  cases hperiod : periodAdmitted s.fmt s.bus.operands.periodIn with
  | false =>
    cases (exec_start_of_not_admitted hrun hperiod).symm.trans hexec
    exact ⟨tr, State.Shows.raise hshows .start (by decide) _,
      State.follows_of_not_running (by simpa using hrun) hexpect (by simpa using hdue)⟩
  | true =>
    cases hpin : s.bus.operands.pinIn with
    | none =>
      cases (exec_start_of_no_pin hrun hperiod hpin).symm.trans hexec
      exact ⟨tr, State.Shows.raise (by exact hshows) .start (by decide) _,
        State.follows_of_not_running (by simp) hexpect (by simpa using hdue)⟩
    | some handle =>
      cases (exec_start_of_pin hrun hperiod hpin).symm.trans hexec
      rw [State.complete_of_host (by exact hhost)]
      exact ⟨{ tr with period := s.bus.operands.periodIn },
        State.Shows.record (by exact hshows) rfl,
        State.follows_of_running rfl rfl ⟨hexpect, hdue⟩⟩

/-! ### The phase steps -/

/-- SEQ runs the loop, and the trace has shown the train `tr` in the place where SEQ_PH is. -/
structure State.InTrain (s : State) (tr : Train) : Prop where
  running : s.genState = .running
  shows : s.Shows tr
  period : tr.period = s.period
  phase : s.phaseFollows tr

theorem State.InTrain.trainHolds {s : State} {tr : Train} (h : s.InTrain tr) : s.trainHolds :=
  ⟨tr, h.shows, State.follows_of_running h.running h.period h.phase⟩

section
variable {s u : State} {tr : Train} (h : s.InTrain tr)
include h

/-- CYC_START shows the stop or a snapshot, between cycles (R130, R145). -/
theorem State.InTrain.cycStart (hph : s.seqPh = .cycStart) : (cycStartStep s).trainHolds := by
  obtain ⟨hrun, hshows, hperiod, hphase⟩ := h
  simp only [State.phaseFollows, hph] at hphase
  obtain ⟨hexpect, hdue⟩ := hphase
  obtain ⟨_, hstep⟩ | ⟨_, hstep⟩ := cycStartStep_cases s <;> rw [hstep]
  · have hstopped : trainStep s.cfg tr .stopped = some tr := if_pos hexpect
    exact ⟨tr, State.Shows.record (by exact hshows) hstopped,
      State.follows_of_not_running (by simp) hexpect hdue⟩
  · generalize clamp s.fmt s.onWidth s.period = w
    have hsnap : trainStep s.cfg tr (.snap w) = some { tr with
        snap := w, expect := if Float64.eq s.fmt w posZero then .low else .high } := if_pos hexpect
    refine State.InTrain.trainHolds ⟨hrun, State.Shows.record (by exact hshows) hsnap, hperiod, ?_⟩
    cases heq : Float64.eq s.fmt w posZero <;> exact ⟨rfl, rfl, hdue⟩

/-- HI_WRITE shows the HIGH write, from which the wait of the snapshot counts (R132, R139). -/
theorem State.InTrain.hiWrite (hph : s.seqPh = .hiWrite)
    (hexec : exec .runCycle s = .next u) : u.trainHolds := by
  obtain ⟨hrun, hshows, hperiod, hphase⟩ := h
  simp only [State.phaseFollows, hph] at hphase
  obtain ⟨hexpect, hsnap, hdue⟩ := hphase
  obtain ⟨_, rfl⟩ := pinWrite_next ((exec_runCycle_of_hiWrite hrun hph).symm.trans hexec)
  have hpin : trainStep s.cfg tr (.pin s.t .high s.bus.pinAnswer) =
      some { tr with expect := .low, due := s.t + need s.cfg tr.snap } := if_pos ⟨hexpect, hdue⟩
  exact State.InTrain.trainHolds ⟨hrun, hshows.record hpin, hperiod, rfl, hsnap,
    (congrArg (s.t + need s.cfg ·) hsnap).le⟩

/-- LO_WRITE shows the LOW write, from which the wait of PERIOD - W_SNAP counts (R135, R139). -/
theorem State.InTrain.loWrite (hph : s.seqPh = .loWrite)
    (hexec : exec .runCycle s = .next u) : u.trainHolds := by
  obtain ⟨hrun, hshows, hperiod, hphase⟩ := h
  simp only [State.phaseFollows, hph] at hphase
  obtain ⟨hexpect, hsnap, hdue⟩ := hphase
  obtain ⟨_, rfl⟩ := pinWrite_next ((exec_runCycle_of_loWrite hrun hph).symm.trans hexec)
  have hpin : trainStep s.cfg tr (.pin s.t .low s.bus.pinAnswer) = some { tr with
      expect := .snapshot, due := s.t + need s.cfg (Float64.sub s.fmt tr.period tr.snap) } :=
    if_pos ⟨hexpect, hdue⟩
  refine State.InTrain.trainHolds ⟨hrun, hshows.record hpin, hperiod, rfl, ?_⟩
  rw [hperiod, hsnap]
  exact le_rfl

variable (hinv : s.Inv)
include hinv

/-- HI_WAIT_ENTER enters the wait of the snapshot, which is above 0.0 (R133). -/
theorem State.InTrain.hiWaitEnter (hph : s.seqPh = .hiWaitEnter) :
    (hiWaitEnterStep s).trainHolds := by
  obtain ⟨hrun, hshows, hperiod, hphase⟩ := h
  simp only [State.phaseFollows, hph] at hphase
  obtain ⟨hexpect, hsnap, hdue⟩ := hphase
  have hneeded : s.waitNeeded s.wSnap = true := hinv.snapPositive hrun (.inr (.inl hph))
  rw [hiWaitEnterStep, if_pos hneeded]
  exact State.InTrain.trainHolds ⟨hrun, hshows.readClock, hperiod, hexpect, hsnap, hdue⟩

/-- A poll of the wait of `d` goes on to the next phase no earlier than `d` needs (R106, R139). -/
theorem State.InTrain.waitPoll {d : F64} {ph : SeqPhase} (hpolls : s.seqPh.polls = true)
    (hdelta : s.waitDelta = waitTicks s.cfg d) (hdue : tr.due ≤ s.waitT0 + need s.cfg d)
    (hafter : tr.due ≤ s.t → (s.readClock.toPhase ph).phaseFollows tr) :
    (s.waitPoll (State.toPhase ph)).trainHolds := by
  obtain ⟨hrun, hshows, hperiod, hphase⟩ := h
  obtain ⟨_, hstep⟩ | ⟨hwrap, hover, hstep⟩ | ⟨_, _, hstep⟩ :=
    waitPoll_cases s (State.toPhase ph) <;> rw [hstep]
  · exact State.InTrain.trainHolds ⟨hrun, hshows, hperiod, hphase⟩
  · have hentry : s.waitT0 ≤ s.t := hinv.entryRead (.inr ⟨hrun, hpolls⟩) hwrap
    have hlasted := s.need_le_of_waitOver hdelta hover
    exact State.InTrain.trainHolds ⟨hrun, hshows.readClock, hperiod, hafter (by omega)⟩
  · exact State.InTrain.trainHolds ⟨hrun, hshows.readClock, hperiod, hphase⟩

/-- HI_POLL ends its wait no earlier than the snapshot needs (R134, R139). -/
theorem State.InTrain.hiPoll (hph : s.seqPh = .hiPoll) : (hiPollStep s).trainHolds := by
  have hphase := h.phase
  simp only [State.phaseFollows, hph] at hphase
  obtain ⟨hexpect, hsnap, hdue⟩ := hphase
  exact h.waitPoll hinv (by rw [hph]; rfl) (hinv.highWait h.running hph).2 hdue
    fun hended => ⟨hexpect, hsnap, hended⟩

/-- LO_WAIT_ENTER enters the wait of PERIOD - W_SNAP, or closes the cycle when that needs no tick
(R136). -/
theorem State.InTrain.loWaitEnter (hph : s.seqPh = .loWaitEnter) :
    (loWaitEnterStep s).trainHolds := by
  obtain ⟨hrun, hshows, hperiod, hphase⟩ := h
  simp only [State.phaseFollows, hph] at hphase
  obtain ⟨hexpect, hdue⟩ := hphase
  unfold loWaitEnterStep
  split
  · exact State.InTrain.trainHolds ⟨hrun, hshows.readClock, hperiod, hexpect, hdue⟩
  · rename_i hneeded
    rw [hinv.need_lowWait_eq_zero (hinv.snapInRange hrun hph (by decide))
      (Bool.eq_false_of_not_eq_true hneeded)] at hdue
    exact State.InTrain.trainHolds ⟨hrun, hshows, hperiod, hexpect, hdue⟩

/-- LO_POLL ends its wait no earlier than PERIOD - W_SNAP needs (R137, R139). -/
theorem State.InTrain.loPoll (hph : s.seqPh = .loPoll) : (loPollStep s).trainHolds := by
  have hphase := h.phase
  simp only [State.phaseFollows, hph] at hphase
  obtain ⟨hexpect, hdue⟩ := hphase
  exact h.waitPoll hinv (by rw [hph]; rfl) (hinv.lowWait h.running hph).2 hdue
    fun hended => ⟨hexpect, hended⟩

/-- Every phase step keeps the train. -/
theorem State.InTrain.runCycle (hexec : exec .runCycle s = .next u) : u.trainHolds := by
  have hrun := h.running
  cases hph : s.seqPh with
  | cycStart =>
    cases (exec_runCycle_of_cycStart hrun hph).symm.trans hexec
    exact h.cycStart hph
  | hiWrite => exact h.hiWrite hph hexec
  | hiWaitEnter =>
    cases (exec_runCycle_of_hiWaitEnter hrun hph).symm.trans hexec
    exact h.hiWaitEnter hinv hph
  | hiPoll =>
    cases (exec_runCycle_of_hiPoll hrun hph).symm.trans hexec
    exact h.hiPoll hinv hph
  | loWrite => exact h.loWrite hph hexec
  | loWaitEnter =>
    cases (exec_runCycle_of_loWaitEnter hrun hph).symm.trans hexec
    exact h.loWaitEnter hinv hph
  | loPoll =>
    cases (exec_runCycle_of_loPoll hrun hph).symm.trans hexec
    exact h.loPoll hinv hph

end

/-! ### The steps -/

/-- The invariant holds of every state with the same registers. -/
theorem State.Inv.of_registers_eq {s u : State} (hinv : s.Inv) (h : u.registers = s.registers) :
    u.Inv := by
  rw [← State.inv_registers, h]
  exact State.inv_registers.mpr hinv

/-- An operation that the command on the ports runs keeps the train. -/
theorem trainHolds_exec {s u : State} {i : Instr} (hinv : s.Inv) (hruns : s.Runs s.bus i)
    (h : s.trainHolds) (hexec : exec i s = .next u) : u.trainHolds := by
  by_cases hstart : i = .start
  · subst hstart
    exact trainHolds_exec_start hruns.of_start.1 h hexec
  obtain ⟨tr, hshows, hfollows⟩ := h
  by_cases hcycle : i = .runCycle
  · subst hcycle
    obtain ⟨_, hrun, _⟩ := hruns.of_runCycle
    obtain ⟨hperiod, hphase⟩ := hfollows.1 hrun
    exact State.InTrain.runCycle ⟨hrun, hshows, hperiod, hphase⟩ hinv hexec
  · refine ⟨tr, State.Shows.exec hshows hstart hcycle hexec, ?_⟩
    suffices hregs : u.registers.follows tr from hregs
    obtain heq | hwrite := registers_exec hexec
    · exact heq ▸ hfollows
    · exact hwrite.follows hstart hcycle hruns hfollows

/-- Settles O45: a tick adds no event and takes the current tick further; an operation keeps the
train. -/
theorem everyStepKeepsThePulseTrain : Obligations.EveryStepKeepsThePulseTrain := by
  intro s u hbits hinv h hstep
  obtain ⟨l, n, htake⟩ := takeMove_snd s
  have hmove : s.takeMove.2.trainHolds ∧ s.takeMove.2.cfg.tickBits = none := by
    rw [htake]
    exact ⟨h, hbits⟩
  obtain ⟨h, hbits⟩ := hmove
  obtain ⟨_, rfl⟩ | ⟨c, _, hserve⟩ := step_next hstep
  · obtain ⟨tr, hshows, hfollows⟩ := h
    exact ⟨tr, hshows, State.follows_clockTick hbits hfollows⟩
  · obtain ⟨rfl, _⟩ | ⟨rfl, _⟩ | ⟨i, j, hdecode, _, hserves, hexec⟩ := serve_next hserve
    · exact h
    · exact h
    · have hpresent : (s.takeMove.2.present c).Inv := hinv.of_registers_eq (by simp)
      exact trainHolds_exec hpresent ⟨i, hdecode, hserves⟩ h hexec

end Sys2Proof.Machine
end

section
/-! PROOFS. The edge operations of the DirectionInputLatch (R150, R151). -/

namespace Sys2Proof.Machine

/-- An operation is issued as its own word, by the agents of its row in the table (R73, R77). -/
theorem issuedAs_encode (i : Instr) : IssuedAs i (encode i) i.issuers :=
  ⟨decode_encode i, fun _ => List.contains_iff_mem⟩

/-- `return` of HOST or EDGE drives the result ports and records the operation (R11, R14, R33). -/
theorem State.complete_of_ne_seq {s : State} (hne : s.bus.issuer ≠ .seq) (i : Instr)
    (r : ResultPorts) :
    s.complete i r = { s with
      res := r
      trace := s.trace ++ [.cmd s.bus.issuer i (operandList i s.bus.operands) r none] } :=
  State.recordCmd_of_ne_seq (s.drive r) i r none hne

/-- What a setpoint writer of HOST or EDGE changes: the setpoint, the result ports and the trace
(R124, R150, R151). -/
theorem exec_of_setpointOf_of_ne_seq {s : State} {i : Instr} {w : F64}
    (hne : s.bus.issuer ≠ .seq) (hvalue : setpointOf s.cfg s.bus.operands i = some w) :
    exec i s = .next { s with
      onWidth := w
      res := okPorts
      trace := s.trace ++ [.cmd s.bus.issuer i (operandList i s.bus.operands) okPorts none] } :=
  calc exec i s
    _ = .next ((s.writeOnWidth w).complete i okPorts) := exec_of_setpointOf hvalue
    _ = _ := congrArg _ (State.complete_of_ne_seq (s := s.writeOnWidth w) hne i okPorts)

/-- Settles O50: an edge operation is a setpoint writer with no operands to record, and `setpointOf`
gives the width it writes. -/
theorem edgesWriteTheSetpoint : Obligations.EdgesWriteTheSetpoint := by
  refine ⟨issuedAs_encode (.fwdEdge false), issuedAs_encode (.fwdEdge true),
    issuedAs_encode (.bwdEdge false), issuedAs_encode (.bwdEdge true), fun s hne => ?_⟩
  exact ⟨exec_of_setpointOf_of_ne_seq hne rfl, exec_of_setpointOf_of_ne_seq hne rfl,
    exec_of_setpointOf_of_ne_seq hne rfl, exec_of_setpointOf_of_ne_seq hne rfl⟩

end Sys2Proof.Machine
end

section
/-! PROOFS. The length check and the pixel frame of the SensorCodec (R160, R165, R166), and the
exactness of the humidity (R171). -/

namespace Sys2Proof.Machine

/-! ### The length check -/

/-- A codec operation of HOST whose length is wrong raises InvalidInput with the length it was
given, and changes nothing but the result ports and the trace (R160). -/
theorem length_check_of_wrong {s : State} {i : Instr} {r : ResultPorts} {wrong : Prop}
    [Decidable wrong] (hi : i.readsBuffer = true) (hhost : s.bus.issuer = .host) (hwrong : wrong) :
    (if wrong then .next (s.wrongLength i) else .next (s.complete i r) :
      Host.Outcome State Fault Refusal) =
    .next { s with
      res := raisePorts .invalidInput
      trace := s.trace ++ [.cmd .host i [.bytes s.bus.operands.bufIn, .len s.bus.operands.lenIn]
        (raisePorts .invalidInput) (some (.len s.bus.operands.lenIn))] } := by
  rw [if_pos hwrong, State.wrongLength, State.raise_of_host hhost, operandList_of_readsBuffer hi]

/-- Settles O58: each of the operations starts with a check of its own length, which fails. -/
theorem wrongBufferLengthIsInvalidInput : Obligations.WrongBufferLengthIsInvalidInput := by
  intro s i hhost len hwrong
  obtain ⟨rfl | rfl, hlen⟩ | ⟨rfl | rfl, hlen⟩ | ⟨rfl, hlen⟩ := hwrong
  · exact length_check_of_wrong (i := .decodeHumidity) rfl hhost hlen
  · exact length_check_of_wrong (i := .decodeTemperatureC) rfl hhost hlen
  · exact length_check_of_wrong (i := .decodeAdc12) rfl hhost hlen
  · exact length_check_of_wrong (i := .decodeAdc10) rfl hhost hlen
  · exact length_check_of_wrong (i := .encodePixelFrame) rfl hhost hlen

/-! ### The pixel frame -/

/-- The record of a pixel: the brightness byte, then the halved blue, green and red (R165). -/
def pixelRecord (p : Pixel) : List Byte :=
  [0xFF, BitVec.ofNat 8 (p.b.toNat / 2), BitVec.ofNat 8 (p.g.toNat / 2),
    BitVec.ofNat 8 (p.r.toNat / 2)]

/-- Moving a byte down by one place halves it. -/
theorem ushiftRight_one_eq_half (x : Byte) : x >>> 1 = BitVec.ofNat 8 (x.toNat / 2) := by
  apply BitVec.eq_of_toNat_eq
  rw [BitVec.toNat_ushiftRight, BitVec.toNat_ofNat, Nat.shiftRight_eq_div_pow]
  omega

/-- The records of a buffer of pixels are those of its pixels in order. -/
theorem pixelRecords_pixelBytes (px : List Pixel) :
    pixelRecords (pixelBytes px) = px.flatMap pixelRecord := by
  induction px with
  | nil => rfl
  | cons p rest ih =>
    simp [pixelBytes, pixelRecords, pixelRecord, Config.brightness, ushiftRight_one_eq_half, ih]

/-- The frame of a list of pixels: the start marker, the records and the end marker (R165). -/
theorem pixelFrame_pixelBytes (n : Nat) (px : List Pixel) :
    pixelFrame n (pixelBytes px) =
      [0, 0, 0, 0] ++ px.flatMap pixelRecord ++ List.replicate ((n + 29) / 16) 0 := by
  rw [pixelFrame, pixelRecords_pixelBytes]
  rfl

/-- Settles O56: three bytes a pixel pass the length check, and the frame is that of the pixels. -/
theorem pixelFrameContract : Obligations.PixelFrameContract := by
  intro s px hhost hbuf hlen hmax r
  have hcount : 3 * px.length / 3 = px.length := Nat.mul_div_cancel_left _ (by decide)
  have hright : ¬(s.bus.operands.lenIn % 3 ≠ 0 ∨ s.cfg.maxPixels < s.bus.operands.lenIn / 3) := by
    omega
  have hports : okBytes (pixelFrame (s.bus.operands.lenIn / 3) s.bus.operands.bufIn) = r := by
    rw [hbuf, hlen, hcount, pixelFrame_pixelBytes]
    rfl
  calc exec .encodePixelFrame s
    _ = .next (s.complete .encodePixelFrame r) := hports ▸ if_neg hright
    _ = _ := by
      rw [State.complete_of_host hhost, operandList_of_readsBuffer rfl, hbuf, hlen]

/-- Settles O57: the frame has four bytes for the start marker and for each pixel, and the ranges of
the end marker are those of its quotient. -/
theorem pixelFrameLength : Obligations.PixelFrameLength := by
  intro px n
  have hrecords : (px.flatMap pixelRecord).length = 4 * n := by
    simp [pixelRecord, n, Nat.mul_comm]
  have hlength : (pixelFrame n (pixelBytes px)).length = 4 + 4 * n + (n + 29) / 16 := by
    rw [pixelFrame_pixelBytes, List.length_append, List.length_append, hrecords,
      List.length_replicate]
    rfl
  rw [hlength]
  refine ⟨rfl, ?_, ?_, ?_, ?_⟩ <;> omega

end Sys2Proof.Machine

namespace Sys2Proof.Float64

open Sys2Proof.Machine

/-! ### Rounding a value of the format -/

/-- A value with no more bits than the format, at a place the format has, is built unchanged. -/
theorem real_round_of_lt {f : FloatFmt} {m : Nat} {e : Int} (neg : Bool)
    (hm : m < 2 ^ (f.fracBits + 1)) (he : f.minExp ≤ e) (hv : m * 2 ^ e < overflowBound f) :
    isFinite f (round f neg m e) = true ∧
    real f (round f neg m e) = sign neg * (m * 2 ^ e) := by
  obtain rfl | hpos := Nat.eq_zero_or_pos m
  · have hzero := unpack_subnormal (f := f) neg (Nat.two_pow_pos _) (by cases f <;> decide)
    rw [round, if_pos rfl, zero]
    exact ⟨isFinite_iff.mpr ⟨_, _, _, hzero⟩, by simp [real_of_unpack hzero]⟩
  · obtain ⟨E, hE⟩ : ∃ E : Nat, lastPlace f m e = f.minExp + E := by
      obtain ⟨E, hE⟩ := Int.le.dest (show f.minExp ≤ lastPlace f m e from le_max_right _ _)
      exact ⟨E, hE.symm⟩
    have hplace : f.minExp + E ≤ e := by
      have hlog : Nat.log2 m < f.fracBits + 1 := (Nat.log2_lt hpos.ne').mpr hm
      rw [← hE]
      exact max_le (by omega) he
    have hrounded := roundedAt_lastPlace hpos hE (.inl rfl)
    have hvalue : (m : Rat) * 2 ^ (e - (f.minExp + E)) * 2 ^ (f.minExp + E) = m * 2 ^ e := by
      rw [mul_assoc, ← zpow_add₀ two_ne_zero, sub_add_cancel]
    have hlt := hrounded.lt_infMag_iff.mpr (by rwa [hvalue])
    have hround : round f neg m e =
        withSign f neg (E * 2 ^ f.fracBits + roundTo m e (f.minExp + E)) := by
      rw [round, if_neg hpos.ne', hE]
      simp [hlt.le]
    have hexact : ((roundTo m e (f.minExp + E) : Nat) : Rat) = m * 2 ^ (e - (f.minExp + E)) := by
      rw [roundTo, if_pos hplace, Nat.cast_mul, Nat.cast_pow, Nat.cast_ofNat, ← zpow_natCast,
        Int.toNat_of_nonneg (by omega)]
    rw [hround, ← hvalue, ← hexact]
    exact hrounded.unpack_value neg hlt

/-- Rounding leaves a value of the format as it is. -/
theorem real_eq_of_roundsTo {f : FloatFmt} {z r : F64} (hz : isFinite f z = true)
    (h : roundsTo f (real f z) r) : isFinite f r = true ∧ real f r = real f z := by
  have hbound : |real f z| < overflowBound f := by
    refine abs_lt.mpr ⟨?_, real_lt_overflowBound hz⟩
    have := real_lt_overflowBound (isFinite_neg hz)
    rw [real_neg hz] at this
    linarith
  obtain ⟨hr, hnear⟩ := h.1 hbound
  have hdist := (hnear z hz).1
  rw [sub_self, abs_zero] at hdist
  exact ⟨hr, sub_eq_zero.mp (abs_nonpos_iff.mp hdist)⟩

/-- Both formats have the multiples of `2^-16` with 24 bits. -/
theorem exists_real_eq_div {Z : Int} {k : Nat} (f : FloatFmt) (hZ : Z.natAbs < 2 ^ 24)
    (hk : k ≤ 16) : ∃ z, isFinite f z = true ∧ real f z = Z / 2 ^ k := by
  have hbits : 2 ^ 24 ≤ 2 ^ (f.fracBits + 1) :=
    Nat.pow_le_pow_right (by decide) (by cases f <;> decide)
  have hplace : f.minExp ≤ -(k : Int) := by
    have : f.minExp ≤ -16 := by cases f <;> decide
    omega
  have hbound : (Z.natAbs : Rat) * 2 ^ (-(k : Int)) < overflowBound f :=
    calc (Z.natAbs : Rat) * 2 ^ (-(k : Int))
      _ ≤ Z.natAbs * 1 := by
        gcongr
        exact zpow_le_one_of_nonpos₀ one_le_two (by omega)
      _ < 2 ^ 53 := by
        rw [mul_one]
        exact_mod_cast hZ.trans (by decide)
      _ ≤ overflowBound f := two_pow_le_overflowBound f
  obtain ⟨hfinite, hreal⟩ :=
    real_round_of_lt (decide (Z < 0)) (hZ.trans_le hbits) hplace hbound
  refine ⟨_, hfinite, ?_⟩
  have hsign : sign (decide (Z < 0)) * Z.natAbs = Z := by
    rw [Nat.cast_natAbs]
    obtain hneg | hnonneg := lt_or_ge Z 0
    · simp [sign, hneg, abs_of_neg]
    · simp [sign, hnonneg.not_gt, abs_of_nonneg hnonneg]
  rw [hreal, ← mul_assoc, hsign, zpow_neg, zpow_natCast, div_eq_mul_inv]

/-- Such a multiple is rounded to itself. -/
theorem exact_of_roundsTo {f : FloatFmt} {v : Rat} {r : F64} (h : roundsTo f v r) (Z : Int)
    {k : Nat} (hv : v = Z / 2 ^ k) (hZ : Z.natAbs < 2 ^ 24) (hk : k ≤ 16) :
    isFinite f r = true ∧ real f r = v := by
  obtain ⟨z, hz, hreal⟩ := exists_real_eq_div f hZ hk
  rw [hv, ← hreal] at h ⊢
  exact real_eq_of_roundsTo hz h

/-- The literal of an integer of 24 bits is that integer. -/
theorem real_literal_nat (f : FloatFmt) (neg : Bool) {n : Nat} (hn : n < 2 ^ 24) :
    isFinite f (literal f neg n 1) = true ∧ real f (literal f neg n 1) = sign neg * n := by
  have hrounds := roundsTo_literal f neg n one_ne_zero
  rw [Nat.cast_one, div_one] at hrounds
  refine exact_of_roundsTo hrounds (if neg then -n else n) (k := 0) ?_ ?_ (by decide)
  · cases neg <;> simp [sign]
  · split <;> omega

end Sys2Proof.Float64

namespace Sys2Proof.Machine

open Sys2Proof.Float64

/-! ### The humidity -/

/-- The ratio of a sample is exact: 16 bits, moved down by 16 places (R161, R171). -/
theorem real_sampleRatio (f : FloatFmt) (raw : BitVec 16) :
    isFinite f (sampleRatio f raw) = true ∧
    real f (sampleRatio f raw) = (raw.toNat : Rat) / 65536 := by
  have hraw := raw.isLt
  obtain ⟨hsample, hsampleReal⟩ := exact_of_roundsTo (roundsTo_ofNat f raw.toNat) raw.toNat
    (k := 0) (by simp) (by omega) (by decide)
  obtain ⟨hscale, hscaleReal⟩ := real_literal_nat f false (n := 65536) (by decide)
  rw [sign, if_neg (by decide), one_mul, Nat.cast_ofNat] at hscaleReal
  have hquotient := roundsTo_div hsample hscale (by norm_num [hscaleReal])
  rw [hsampleReal, hscaleReal] at hquotient
  exact exact_of_roundsTo hquotient raw.toNat (k := 16) (by norm_num) (by omega) (by decide)

/-- Settles O53: the product and the sum are multiples of `2^-16` with at most 23 bits, so that no
rounding of the formula changes its value. -/
theorem humidityIsExact : Obligations.HumidityIsExact := by
  intro f raw
  have hraw := raw.isLt
  obtain ⟨hratio, hratioReal⟩ := real_sampleRatio f raw
  obtain ⟨hslope, hslopeReal⟩ := real_literal_nat f false (n := 125) (by decide)
  obtain ⟨hoffset, hoffsetReal⟩ := real_literal_nat f true (n := 6) (by decide)
  obtain ⟨hproduct, hproductReal⟩ := exact_of_roundsTo (roundsTo_mul hslope hratio)
    (125 * raw.toNat) (k := 16) (by rw [hslopeReal, hratioReal]; norm_num [sign]; ring)
    (by omega) (by decide)
  have hvalue : real f (literal f true 6 1) +
      real f (mul f (literal f false 125 1) (sampleRatio f raw)) =
        -6 + 125 * (raw.toNat : Rat) / 65536 := by
    rw [hproductReal, hoffsetReal, hslopeReal, hratioReal]
    norm_num [sign]
    ring
  rw [← hvalue]
  exact exact_of_roundsTo (roundsTo_add hoffset hproduct) (125 * raw.toNat - 6 * 65536) (k := 16)
    (by rw [hvalue]; push_cast; ring) (by omega) (by decide)

end Sys2Proof.Machine
end

section
/-! PROOFS. The mark REFUSED: no step clears it (R204), and the polls that set it (R238); and the
moves that are taken up where none is settled (R212, R213). -/

namespace Sys2Proof.Machine

/-! ### What reaches the mark -/

/-- From `s` to `u` the mark REFUSED is as it was, or `u` is `s` with the refusal and nothing else
(R204). -/
def MarksOnlyByRefusal (s u : State) : Prop := u.refused = s.refused ∨ u = s.refuse

/-- A step that reaches the mark only by a refusal does not clear it. -/
theorem MarksOnlyByRefusal.refused {s u : State} (h : MarksOnlyByRefusal s u)
    (hs : s.refused = true) : u.refused = true := by
  obtain heq | rfl := h
  · rw [heq, hs]
  · exact s.refuse_refused

section
variable {s u : State}

/-- A poll refuses its wait, or leaves the mark when what follows the wait does. -/
theorem marksOnlyByRefusal_waitPoll {after : State → State}
    (hafter : ∀ v, (after v).refused = v.refused) : MarksOnlyByRefusal s (s.waitPoll after) := by
  obtain ⟨_, h⟩ | ⟨_, _, h⟩ | ⟨_, _, h⟩ := waitPoll_cases s after <;> rw [h]
  · exact .inr rfl
  · exact .inl (hafter _)
  · exact .inl rfl

/-- A pin write leaves the mark when the phase change after it does. -/
theorem refused_of_pinWrite {level : Level} {after : State → State}
    (h : s.pinWrite level after = .next u) (hafter : ∀ v, (after v).refused = v.refused) :
    u.refused = s.refused := by
  obtain ⟨_, rfl⟩ := pinWrite_next h
  exact hafter _

theorem refused_cycStartStep (s : State) : (cycStartStep s).refused = s.refused := by
  obtain ⟨_, h⟩ | ⟨_, h⟩ := cycStartStep_cases s <;> rw [h] <;> rfl

theorem refused_hiWaitEnterStep (s : State) : (hiWaitEnterStep s).refused = s.refused := by
  unfold hiWaitEnterStep
  split <;> rfl

theorem refused_loWaitEnterStep (s : State) : (loWaitEnterStep s).refused = s.refused := by
  unfold loWaitEnterStep
  split <;> rfl

/-- Of the phase steps only the two polls can refuse. -/
theorem marksOnlyByRefusal_runCycle (h : exec .runCycle s = .next u) : MarksOnlyByRefusal s u := by
  by_cases hrun : s.genState = .running
  case neg =>
    cases (exec_runCycle_of_not_running hrun).symm.trans h
    exact .inl rfl
  cases hph : s.seqPh with
  | cycStart =>
    cases (exec_runCycle_of_cycStart hrun hph).symm.trans h
    exact .inl (refused_cycStartStep s)
  | hiWrite =>
    exact .inl (refused_of_pinWrite ((exec_runCycle_of_hiWrite hrun hph).symm.trans h) fun _ => rfl)
  | hiWaitEnter =>
    cases (exec_runCycle_of_hiWaitEnter hrun hph).symm.trans h
    exact .inl (refused_hiWaitEnterStep s)
  | hiPoll =>
    cases (exec_runCycle_of_hiPoll hrun hph).symm.trans h
    exact marksOnlyByRefusal_waitPoll fun _ => rfl
  | loWrite =>
    exact .inl (refused_of_pinWrite ((exec_runCycle_of_loWrite hrun hph).symm.trans h) fun _ => rfl)
  | loWaitEnter =>
    cases (exec_runCycle_of_loWaitEnter hrun hph).symm.trans h
    exact .inl (refused_loWaitEnterStep s)
  | loPoll =>
    cases (exec_runCycle_of_loPoll hrun hph).symm.trans h
    exact marksOnlyByRefusal_waitPoll fun _ => rfl

/-- A poll of WAIT_FOR can refuse; its entry step cannot. -/
theorem marksOnlyByRefusal_waitFor (h : exec .waitFor s = .next u) : MarksOnlyByRefusal s u := by
  cases hop : s.waitOp with
  | true =>
    cases (exec_waitFor_of_waitOp hop).symm.trans h
    exact marksOnlyByRefusal_waitPoll fun _ => rfl
  | false =>
    cases hgt : Float64.gt s.fmt s.bus.operands.durIn posZero with
    | true =>
      cases (exec_waitFor_of_gt hop hgt).symm.trans h
      exact .inl rfl
    | false =>
      cases (exec_waitFor_of_not_gt hop hgt).symm.trans h
      exact .inl rfl

/-- START is refused while RUNNING (R120); its other outcomes leave the mark. -/
theorem marksOnlyByRefusal_start (h : exec .start s = .next u) : MarksOnlyByRefusal s u := by
  by_cases hrun : s.genState = .running
  · cases (exec_start_of_running hrun).symm.trans h
    exact .inr rfl
  cases hperiod : periodAdmitted s.fmt s.bus.operands.periodIn with
  | false =>
    cases (exec_start_of_not_admitted hrun hperiod).symm.trans h
    exact .inl (State.raise_refused ..)
  | true =>
    cases hpin : s.bus.operands.pinIn with
    | none =>
      cases (exec_start_of_no_pin hrun hperiod hpin).symm.trans h
      exact .inl (State.raise_refused ..)
    | some _ =>
      cases (exec_start_of_pin hrun hperiod hpin).symm.trans h
      exact .inl (State.complete_refused ..)

/-- STOP leaves the mark, whether or not it sets STOP_REQ. -/
theorem refused_stop (h : exec .stop s = .next u) : u.refused = s.refused := by
  by_cases hrun : s.genState = .running
  · cases (exec_stop_of_running hrun).symm.trans h
    exact State.complete_refused ..
  · cases (exec_stop_of_not_running hrun).symm.trans h
    exact State.complete_refused ..

/-- Every operation leaves the mark or is refused, which sets it and changes nothing else. -/
theorem marksOnlyByRefusal_exec {i : Instr} (h : exec i s = .next u) : MarksOnlyByRefusal s u := by
  by_cases hcodec : i.readsBuffer = true
  · obtain ⟨v, hv, _, _, hmark⟩ := exec_codec hcodec s
    cases hv.symm.trans h
    exact .inl hmark
  cases i with
  | start => exact marksOnlyByRefusal_start h
  | stop => exact .inl (refused_stop h)
  | setOnWidth | fwdEdge | bwdEdge | now | frequency =>
    cases h
    exact .inl (State.complete_refused ..)
  | runCycle => exact marksOnlyByRefusal_runCycle h
  | waitFor => exact marksOnlyByRefusal_waitFor h
  | decodeHumidity | decodeTemperatureC | decodeAdc12 | decodeAdc10 | encodePixelFrame =>
    exact absurd rfl hcodec

/-- No command clears the mark: it is no step, its word is refused, or its operation runs. -/
theorem refused_serve {c : Command} (hs : s.refused = true) (h : serve c s = .next u) :
    u.refused = true := by
  obtain ⟨rfl, _⟩ | ⟨rfl, _⟩ | ⟨_, _, _, _, _, hexec⟩ := serve_next h
  · exact hs
  · exact s.refuse_refused
  · exact (marksOnlyByRefusal_exec hexec).refused hs

/-- Taking a move leaves the mark. -/
theorem takeMove_refused (s : State) : s.takeMove.2.refused = s.refused := by
  obtain ⟨_, _, h⟩ := takeMove_snd s
  rw [h]

end

/-- Settles O7: a tick leaves the mark, and so does every command but a refused one, which sets
it. -/
theorem refusedMarkIsNeverCleared : Obligations.RefusedMarkIsNeverCleared := by
  intro s u hstep hs
  have hs : s.takeMove.2.refused = true := (takeMove_refused s).trans hs
  obtain ⟨_, rfl⟩ | ⟨_, _, hserve⟩ := step_next hstep
  · rw [State.clockTick_refused, hs]
  · exact refused_serve hs hserve

/-! ### A wait across a wrap -/

/-- The poll of a wait that the wrap fell into is refused (R238). -/
theorem waitPoll_of_wrapped {s : State} (hwrap : s.wrapped = true) (after : State → State) :
    s.waitPoll after = s.refuse :=
  if_pos hwrap

/-- Settles O18: in WAIT_FOR and in both poll phases the step is a poll of the wait. -/
theorem waitAcrossAWrapIsRefused : Obligations.WaitAcrossAWrapIsRefused := by
  intro s hwrap
  refine ⟨fun hop => ?_, fun hrun hph => ?_⟩
  · rw [exec_waitFor_of_waitOp hop, waitPoll_of_wrapped hwrap]
    rfl
  · obtain ⟨after, hexec⟩ := exec_runCycle_of_polls hrun hph
    rw [hexec, waitPoll_of_wrapped hwrap]
    rfl

/-! ### Free moves -/

/-- A stretch has a first move, since the fair one closes it. -/
theorem stretch_eq_cons (n : Nat) :
    stretch n = (stretch n).headD .clk :: (stretch n).tail := by
  cases h : stretch n with
  | nil => simp [stretch] at h
  | cons m moves => rfl

/-- With nothing settled, the move taken is the one taken with the next stretch settled. -/
theorem takeMove_of_nil_eq_stretch {s : State} (h : s.agenda = []) :
    s.takeMove = State.takeMove { s with agenda := stretch s.turn, turn := s.turn + 1 } := by
  rw [takeMove_of_nil h, takeMove_of_cons (stretch_eq_cons s.turn)]

/-- Settles O13: the stretch is taken up first, and its first move is the move in turn. -/
theorem unsettledMovesAreFree : Obligations.UnsettledMovesAreFree := by
  intro s hagenda
  have htake := takeMove_of_nil_eq_stretch hagenda
  rw [stretch, fairMove] at htake
  rw [step, step, htake]

end Sys2Proof.Machine
end

section
/-! PROOFS. What reset leaves in the registers (R230). -/

namespace Sys2Proof.Machine

/-- Settles O49: each register is a field of the record that reset builds, and the phases it names,
IDLE and CYC_START, have the code 0 (R23, R25). -/
theorem resetValues : Obligations.ResetValues := by
  obtain ⟨⟨hidle, -⟩, ⟨hcycStart, -⟩, -⟩ := numericCodes
  intro p tick t0 dur delta
  exact ⟨rfl, rfl, hidle, rfl, hcycStart, rfl, rfl, rfl, rfl, rfl, rfl, rfl, rfl, rfl, rfl⟩

end Sys2Proof.Machine
end
